-- ==== Sys2Proof/Word.lean ====
section
/-! DEFINITION. Sys2Proof/Word.lean: the block's word, register index and immediate (00_scope.md R4, 10_state.md R20,
30_encoding.md R71). -/

namespace Sys2Proof

/-- XLEN = 32: "Every register, operand and result is a 32-bit two's-complement word" (00_scope.md R4). -/
abbrev Word := BitVec 32

/-- The index of a general register X0 to X15. All 16 values are legal in every register field (30_encoding.md R79),
so the type is the whole range check. -/
abbrev Reg := Fin 16

/-- The imm16 field of format I (30_encoding.md R73, R74). -/
abbrev Imm16 := BitVec 16

end Sys2Proof
end

