-- ==== Sys2Proof/Syntax.lean ====
section
/-! DEFINITION. Sys2Proof/Syntax.lean: the commands (one constructor per row of spec/opcode_table.json), the host's accesses
and actions, and the assembler's lines. -/

namespace Sys2Proof

/-- The 25 commands of 30_encoding.md R80, operands in the order of its operands column: rd first, then the sources. -/
inductive Instr where
  | add (rd a b : Reg)
  | sub (rd a b : Reg)
  | mul (rd a b : Reg)
  | div (rd a b : Reg)
  | mod (rd a b : Reg)
  | abs (rd a : Reg)
  | min (rd a b : Reg)
  | max (rd a b : Reg)
  | clamp (rd a lo hi : Reg)
  | floor (rd a : Reg)
  | ceil (rd a : Reg)
  | round (rd a : Reg)
  | lerp (rd a b t : Reg)
  | awrap (rd a : Reg)
  | sin (rd a : Reg)
  | cos (rd a : Reg)
  | tan (rd a : Reg)
  | atan2 (rd y x : Reg)
  | atan (rd a : Reg)
  | asin (rd a : Reg)
  | acos (rd a : Reg)
  | sqrt (rd a : Reg)
  | ldh (rd : Reg) (imm : Imm16)
  | ldl (rd : Reg) (imm : Imm16)
  | mov (rd rs : Reg)
  deriving DecidableEq, Repr

/-- One host-port access (20_memory.md R52, R53): a byte offset inside the block's window, a width in bits, and for a write
its word. The width is a field because R53 asks a model to refuse every width but 32. -/
inductive HostAccess where
  | read (offset : Nat) (bits : Nat)
  | write (offset : Nat) (bits : Nat) (value : Word)
  deriving DecidableEq, Repr

/-- One thing the host does to the block (70_reset_and_hazards.md R266, R267): an access, or a reset. `lost` holds the
accesses that this reset cut off: the command in progress and what the port held or had not yet accepted (R261). -/
inductive HostAction where
  | access (a : HostAccess)
  | reset (lost : List HostAccess)
  deriving DecidableEq, Repr

/-- What a host-port offset reaches (20_memory.md R52). -/
inductive PortSlot where
  | cmd
  | status
  | xreg (r : Reg)
  | reserved
  deriving DecidableEq, Repr

/-- The assembler's pseudo-instructions (30_encoding.md R87). -/
inductive Pseudo where
  | li (rd : Reg) (v : Word)
  | fromint (rd : Reg) (n : Int)
  | liang (rd : Reg) (n : Nat)
  deriving DecidableEq, Repr

/-- One line of a program (30_encoding.md R86): a command, a pseudo-instruction, a raw word (`.illegal`, R88), or a host
action. -/
inductive AsmLine where
  | command (i : Instr)
  | pseudo (p : Pseudo)
  | word (w : Word)
  | hostWr (r : Reg) (v : Word)
  | hostRd (r : Reg)
  | hostSt
  | hostClr (m : Word)
  | hostReset
  deriving DecidableEq, Repr

end Sys2Proof
end

