-- ==== Sys2Proof/WellFormed.lean ====
section
/-! DEFINITION. Sys2Proof/WellFormed.lean: the opcode map as the spec prints it, and the checks on a command word, on a host
access and on the operands of an assembler line. Every term of `Instr` is well formed: a register field takes all 16 values
(30_encoding.md R79), imm16 takes all of its own (R74), so its types are its whole check. -/

namespace Sys2Proof

/-- The four operand classes (30_encoding.md R75). -/
inductive OperandClass where
  | s3
  | s2
  | s1
  | imm
  deriving DecidableEq, Repr

/-- The mask column of R75: the opcode field and the bits that must be zero. -/
def OperandClass.mask : OperandClass → Word
  | .s3 => 0xFC0003FF
  | .s2 => 0xFC003FFF
  | .s1 => 0xFC03FFFF
  | .imm => 0xFC3F0000

/-- One row of the opcode map (30_encoding.md R80). -/
structure OpRow where
  mnemonic : String
  op : Nat
  cls : OperandClass
  deriving DecidableEq, Repr

/-- "match = op << 26" (R80). -/
def OpRow.matchWord (r : OpRow) : Word := BitVec.ofNat 32 (r.op * 2 ^ 26)

/-- "A word w selects a row when (w & mask) = match" (R80). -/
def OpRow.selects (r : OpRow) (w : Word) : Bool := (w &&& r.cls.mask) == r.matchWord

/-- The scalar arithmetic rows of R80. -/
def scalarRows : List OpRow := [
  ⟨"ADD", 0x01, .s2⟩, ⟨"SUB", 0x02, .s2⟩, ⟨"MUL", 0x03, .s2⟩, ⟨"DIV", 0x04, .s2⟩, ⟨"MOD", 0x05, .s2⟩,
  ⟨"ABS", 0x06, .s1⟩, ⟨"MIN", 0x07, .s2⟩, ⟨"MAX", 0x08, .s2⟩, ⟨"CLAMP", 0x09, .s3⟩, ⟨"FLOOR", 0x0A, .s1⟩,
  ⟨"CEIL", 0x0B, .s1⟩, ⟨"ROUND", 0x0C, .s1⟩, ⟨"LERP", 0x0D, .s3⟩]

/-- The angle, lookup-table and inverse trigonometry rows of R80. -/
def trigRows : List OpRow := [
  ⟨"AWRAP", 0x10, .s1⟩, ⟨"SIN", 0x11, .s1⟩, ⟨"COS", 0x12, .s1⟩, ⟨"TAN", 0x13, .s1⟩,
  ⟨"ATAN2", 0x18, .s2⟩, ⟨"ATAN", 0x19, .s1⟩, ⟨"ASIN", 0x1A, .s1⟩, ⟨"ACOS", 0x1B, .s1⟩]

/-- The square root and register move rows of R80. -/
def rootAndMoveRows : List OpRow := [
  ⟨"SQRT", 0x20, .s1⟩, ⟨"LDH", 0x30, .imm⟩, ⟨"LDL", 0x31, .imm⟩, ⟨"MOV", 0x32, .s1⟩]

/-- The opcode map of R80, in its order. -/
def opcodeMap : List OpRow := scalarRows ++ trigRows ++ rootAndMoveRows

/-- The mnemonic of a command's row of R80. -/
def Instr.mnemonic : Instr → String
  | .add _ _ _ => "ADD"
  | .sub _ _ _ => "SUB"
  | .mul _ _ _ => "MUL"
  | .div _ _ _ => "DIV"
  | .mod _ _ _ => "MOD"
  | .abs _ _ => "ABS"
  | .min _ _ _ => "MIN"
  | .max _ _ _ => "MAX"
  | .clamp _ _ _ _ => "CLAMP"
  | .floor _ _ => "FLOOR"
  | .ceil _ _ => "CEIL"
  | .round _ _ => "ROUND"
  | .lerp _ _ _ _ => "LERP"
  | .awrap _ _ => "AWRAP"
  | .sin _ _ => "SIN"
  | .cos _ _ => "COS"
  | .tan _ _ => "TAN"
  | .atan2 _ _ _ => "ATAN2"
  | .atan _ _ => "ATAN"
  | .asin _ _ => "ASIN"
  | .acos _ _ => "ACOS"
  | .sqrt _ _ => "SQRT"
  | .ldh _ _ => "LDH"
  | .ldl _ _ => "LDL"
  | .mov _ _ => "MOV"

/-- A command word is legal when some row of the opcode map selects it (R78, R80). -/
def legalWord (w : Word) : Bool := opcodeMap.any (·.selects w)

/-- Why a word is no command (60_exceptions.md R222). -/
inductive Illegal where
  /-- its op is unassigned (30_encoding.md R85) -/
  | unassignedOpcode
  /-- its op is reserved for exp, log and pow (R84) -/
  | reservedOpcode
  /-- its op is assigned, but a bit its class requires to be zero is 1 (R76) -/
  | nonzeroReservedBits
  deriving DecidableEq, Repr

/-- "Every host-port access moves exactly 32 bits" (20_memory.md R53). -/
def HostAccess.wellFormed : HostAccess → Bool
  | .read _ bits => bits == 32
  | .write _ bits _ => bits == 32

/-- A host action the port can carry. A reset always is one; what it cut off is not performed. -/
def HostAction.wellFormed : HostAction → Bool
  | .access a => a.wellFormed
  | .reset _ => true

/-- The operand ranges of the pseudo-instructions (30_encoding.md R87). -/
def Pseudo.wellFormed : Pseudo → Bool
  | .li _ _ => true
  | .fromint _ n => decide (-32768 ≤ n ∧ n ≤ 32767)
  | .liang _ n => decide (n ≤ 4095)

/-- A line whose operands are in range; a raw word line stands only for a word no row selects (R88). -/
def AsmLine.wellFormed : AsmLine → Bool
  | .pseudo p => p.wellFormed
  | .word w => !legalWord w
  | .command _ => true
  | .hostWr _ _ => true
  | .hostRd _ => true
  | .hostSt => true
  | .hostClr _ => true
  | .hostReset => true

end Sys2Proof
end

