-- ==== Sys2Proof/Decode.lean ====
section
/-! DEFINITION. Sys2Proof/Decode.lean: the decoder of 30_encoding.md R77, total on every word and rejecting by name, and the
encoder written from the formats of R71 to R73. -/

namespace Sys2Proof

/-! ### Fields (R71) -/

/-- op = w[31:26]. -/
def opField (w : Word) : BitVec 6 := w.extractLsb' 26 6
/-- rd = w[25:22]. -/
def rdField (w : Word) : Reg := (w.extractLsb' 22 4).toFin
/-- rs1 = w[21:18]. -/
def rs1Field (w : Word) : Reg := (w.extractLsb' 18 4).toFin
/-- rs2 = w[17:14]. -/
def rs2Field (w : Word) : Reg := (w.extractLsb' 14 4).toFin
/-- rs3 = w[13:10]. -/
def rs3Field (w : Word) : Reg := (w.extractLsb' 10 4).toFin
/-- imm16 = w[15:0]. -/
def imm16Field (w : Word) : Imm16 := w.extractLsb' 0 16

/-! ### Decoding (R77) -/

/-- "if (w & mask(class)) != (op << 26): raise IllegalCommand" (R76, R77). -/
def checked (w : Word) (c : OperandClass) (i : Instr) : Except Illegal Instr :=
  if w &&& c.mask = (opField w).setWidth 32 <<< 26 then .ok i else .error .nonzeroReservedBits

/-- A class S1 word: rd and rs1 (R75). -/
def decodeS1 (w : Word) (mk : Reg → Reg → Instr) : Except Illegal Instr :=
  checked w .s1 (mk (rdField w) (rs1Field w))

/-- A class S2 word: rd, rs1 and rs2 (R75). -/
def decodeS2 (w : Word) (mk : Reg → Reg → Reg → Instr) : Except Illegal Instr :=
  checked w .s2 (mk (rdField w) (rs1Field w) (rs2Field w))

/-- A class S3 word: rd, rs1, rs2 and rs3 (R75). -/
def decodeS3 (w : Word) (mk : Reg → Reg → Reg → Reg → Instr) : Except Illegal Instr :=
  checked w .s3 (mk (rdField w) (rs1Field w) (rs2Field w) (rs3Field w))

/-- A class IMM word: rd and imm16 (R75). -/
def decodeImm (w : Word) (mk : Reg → Imm16 → Instr) : Except Illegal Instr :=
  checked w .imm (mk (rdField w) (imm16Field w))

/-- The decoder of R77 over the opcode map of R80. -/
def decode (w : Word) : Except Illegal Instr :=
  match (opField w).toNat with
  | 0x01 => decodeS2 w .add
  | 0x02 => decodeS2 w .sub
  | 0x03 => decodeS2 w .mul
  | 0x04 => decodeS2 w .div
  | 0x05 => decodeS2 w .mod
  | 0x06 => decodeS1 w .abs
  | 0x07 => decodeS2 w .min
  | 0x08 => decodeS2 w .max
  | 0x09 => decodeS3 w .clamp
  | 0x0A => decodeS1 w .floor
  | 0x0B => decodeS1 w .ceil
  | 0x0C => decodeS1 w .round
  | 0x0D => decodeS3 w .lerp
  | 0x10 => decodeS1 w .awrap
  | 0x11 => decodeS1 w .sin
  | 0x12 => decodeS1 w .cos
  | 0x13 => decodeS1 w .tan
  | 0x18 => decodeS2 w .atan2
  | 0x19 => decodeS1 w .atan
  | 0x1A => decodeS1 w .asin
  | 0x1B => decodeS1 w .acos
  | 0x20 => decodeS1 w .sqrt
  | 0x30 => decodeImm w .ldh
  | 0x31 => decodeImm w .ldl
  | 0x32 => decodeS1 w .mov
  | op => if 0x21 ≤ op ∧ op ≤ 0x2F then .error .reservedOpcode else .error .unassignedOpcode

/-! ### Encoding (R72, R73, R80) -/

/-- Format R: op, rd, rs1, rs2, rs3 and ten zero bits (R72). -/
def formatR (op : BitVec 6) (rd rs1 rs2 rs3 : Reg) : Word :=
  op ++ BitVec.ofFin (w := 4) rd ++ BitVec.ofFin (w := 4) rs1 ++ BitVec.ofFin (w := 4) rs2 ++ BitVec.ofFin (w := 4) rs3 ++ 0#10

/-- Format I: op, rd, six zero bits and imm16 (R73). -/
def formatI (op : BitVec 6) (rd : Reg) (imm : Imm16) : Word :=
  op ++ BitVec.ofFin (w := 4) rd ++ 0#6 ++ imm

/-- The command word of an instruction: its opcode of R80 and its operands, "Each source field it does not use must be
zero" (R72). -/
def encode : Instr → Word
  | .add rd a b => formatR 0x01 rd a b 0
  | .sub rd a b => formatR 0x02 rd a b 0
  | .mul rd a b => formatR 0x03 rd a b 0
  | .div rd a b => formatR 0x04 rd a b 0
  | .mod rd a b => formatR 0x05 rd a b 0
  | .abs rd a => formatR 0x06 rd a 0 0
  | .min rd a b => formatR 0x07 rd a b 0
  | .max rd a b => formatR 0x08 rd a b 0
  | .clamp rd a lo hi => formatR 0x09 rd a lo hi
  | .floor rd a => formatR 0x0A rd a 0 0
  | .ceil rd a => formatR 0x0B rd a 0 0
  | .round rd a => formatR 0x0C rd a 0 0
  | .lerp rd a b t => formatR 0x0D rd a b t
  | .awrap rd a => formatR 0x10 rd a 0 0
  | .sin rd a => formatR 0x11 rd a 0 0
  | .cos rd a => formatR 0x12 rd a 0 0
  | .tan rd a => formatR 0x13 rd a 0 0
  | .atan2 rd y x => formatR 0x18 rd y x 0
  | .atan rd a => formatR 0x19 rd a 0 0
  | .asin rd a => formatR 0x1A rd a 0 0
  | .acos rd a => formatR 0x1B rd a 0 0
  | .sqrt rd a => formatR 0x20 rd a 0 0
  | .ldh rd imm => formatI 0x30 rd imm
  | .ldl rd imm => formatI 0x31 rd imm
  | .mov rd rs => formatR 0x32 rd rs 0 0

/-! ### The host's interface -/

/-- The command word whose low `nbits` bits are those of `w` and whose other bits are zero. -/
def tableWord (nbits w : Nat) : Word := BitVec.ofNat 32 (w % 2 ^ nbits)

/-- What the decoder reads from the opcode table's bits; none where it refuses. -/
def decodeTableWord (nbits w : Nat) : Option Instr := (decode (tableWord nbits w)).toOption

end Sys2Proof
end

