-- ==== Sys2Proof/Config.lean ====
section
/-! DEFINITION. Sys2Proof/Config.lean: the parameters and constants of 00_scope.md R5, the OPEN parameters, and the
free values. -/

namespace Sys2Proof.Config

/-! ### Constants this hardware takes (00_scope.md R5) -/

/-- NREG: the number of general registers. -/
def nreg : Nat := 16
/-- FRAC: the fraction bits of Q16.16. -/
def frac : Nat := 16
/-- XINT1, the value 1.0. -/
def xint1 : Word := 0x00010000
/-- XINTMAX (decision D34). -/
def xintMax : Word := 0x7FFFFFFF
/-- XINTMIN (decision D34). -/
def xintMin : Word := 0x80000000
/-- XANG360: one revolution in xang units. -/
def xang360 : Word := 4096
/-- XANG0. -/
def xang0 : Word := 0
/-- XANG45. -/
def xang45 : Word := 512
/-- XANG90. -/
def xang90 : Word := 1024
/-- XANG135. -/
def xang135 : Word := 1536
/-- XANG180. -/
def xang180 : Word := 2048
/-- XANG270. -/
def xang270 : Word := 3072
/-- TAN_ASYM: the value of TAN_LUT[1024] (decision D15, 41_angle_trig.md R148). -/
def tanAsym : Word := 0x7FFFFFFF
/-- ATAN2_XONE_SPECIAL: this hardware has the branch (decision D18, 90_conflicts.md C3 and C6). -/
def atan2XoneSpecial : Bool := true
/-- The least |y| of the ATAN2_XONE_SPECIAL branch (42_inverse_trig.md R173). -/
def atan2XoneBand : Nat := 0x7FFF0000
/-- ASIN_EPS in raw units (decision D20). -/
def asinEps : Nat := 51
/-- ACOS_EPS in raw units (decision D20). -/
def acosEps : Nat := 51

/-! ### OPEN parameters (92_eei_decisions.md, "Open parameters"): no rule depends on any of them -/

/-- Which 256-byte page of the platform's address space holds the port window: any. -/
opaque hostBasePage : Nat
/-- HOST_BASE: the base of the 256-byte window, 256-byte aligned (decision D24). -/
def hostBase : Nat := 256 * hostBasePage
/-- The clock cycles beyond the first that a command word takes on the given operand words: any number. -/
opaque extraCycles (command : Word) (operands : List Word) : Nat
/-- LATENCY: at least one cycle, finite, free to differ by command and by input (70_reset_and_hazards.md R265). The model
represents no time: nothing in the machine reads it. -/
def latency (command : Word) (operands : List Word) : Nat := extraCycles command operands + 1
/-- FAULT_ROUTING: whether fault_o reaches an interrupt controller (60_exceptions.md R228). Nothing in the machine reads
it. -/
opaque faultRouting : Bool

/-! ### Values the spec leaves open -/

/-- DESIGN CHOICE (unsafe; log entry 1). The word an X register holds after reset, where the spec gives none
(10_state.md R23, R31). -/
def resetWord : Word := 0

/-- FREE VALUE (log entry 3). The unspecified word a host read draws from register `r` while `r` is not written since the
`epoch`-th reset (10_state.md R23: "modelled as a draw"). It has no body: a claim holds for every value of it. -/
opaque unspecifiedWord (epoch : Nat) (r : Reg) : Word

end Sys2Proof.Config
end

