-- ==== Sys2Proof/Machine/Fixed.lean ====
section
/-! DEFINITION. Sys2Proof/Machine/Fixed.lean: the pseudocode's number functions (00_scope.md R9) and the scalar primitives that
every higher command is built from (40_q16_arith.md R100, R141 of 41_angle_trig.md). -/

namespace Sys2Proof.Machine

/-! ### Notation (00_scope.md R9) -/

/-- `s32(v)`: the 32-bit two's-complement wrap. -/
def s32 (v : Int) : Word := BitVec.ofInt 32 v

/-- `asr(v, n)` = floor(v / 2^n). -/
def asr (v : Int) (n : Nat) : Int := v / 2 ^ n

/-- `tdiv(n, d)`, d ≠ 0: the quotient rounded toward zero. -/
def tdiv (n d : Int) : Int := Int.tdiv n d

/-- `trem(n, d)` = n - d · tdiv(n, d). -/
def trem (n d : Int) : Int := n - d * tdiv n d

/-- `abs_math(v)`: the mathematical absolute value of the signed word, with no wrap. -/
def absMath (v : Word) : Nat := v.toInt.natAbs

/-! ### Scalar primitives (40_q16_arith.md R100) -/

/-- `xadd(a, b) = s32(a + b)`. -/
def xadd (a b : Word) : Word := s32 (a.toInt + b.toInt)

/-- `xsub(a, b) = s32(a - b)`. -/
def xsub (a b : Word) : Word := s32 (a.toInt - b.toInt)

/-- `xmul(a, b) = s32(asr(a * b, 16))`. -/
def xmul (a b : Word) : Word := s32 (asr (a.toInt * b.toInt) 16)

/-- `xdiv(a, b) = s32(tdiv(a * 65536, b))`, for b ≠ 0. -/
def xdiv (a b : Word) : Word := s32 (tdiv (a.toInt * 65536) b.toInt)

/-- xdiv behind its guard: no result, that is DivideByZero, where b = 0 (R104). -/
def xdivGuarded (a b : Word) : Option Word := if b = 0 then none else some (xdiv a b)

/-- `xfloor(a) = s32(a & 0xFFFF0000)`. -/
def xfloor (a : Word) : Word := a &&& 0xFFFF0000

/-- The absolute value with wrap: `(a < 0) ? s32(-a) : a` (R106, and |y| in R171). -/
def xabs (a : Word) : Word := if a.toInt < 0 then s32 (-a.toInt) else a

/-! ### The angle wrap (41_angle_trig.md R141) -/

/-- `awrap(a) = u32(a) mod 4096 = a[11:0]`. -/
def awrap (a : Word) : Word := BitVec.ofNat 32 (a.toNat % 4096)

end Sys2Proof.Machine
end

