-- ==== Sys2Proof/Machine/State.lean ====
section
/-! DEFINITION. Sys2Proof/Machine/State.lean: the state of the block (10_state.md), the model's records that 10_state.md R23
and 60_exceptions.md R227 ask for, the reasons a run or a step can stop, and the state after reset. -/

namespace Sys2Proof.Machine

/-- The exceptions of the block (60_exceptions.md R220). Not a stop: an exception sets a STATUS flag and the block goes on. -/
inductive Cause where
  | divideByZero
  | illegalCommand
  deriving DecidableEq, Repr

/-- One entry of the exception record: the cause, and the position of the command in the run (60_exceptions.md R227). -/
structure ExceptionEvent where
  position : Nat
  cause : Cause
  deriving DecidableEq, Repr

/-- One read, by the command at `position`, of register `reg` while it was not written since reset (10_state.md R23). -/
structure UninitEvent where
  position : Nat
  reg : Reg
  deriving DecidableEq, Repr

/-- One word the block returned to the host at a read (70_reset_and_hazards.md R266). -/
structure HostReturn where
  position : Nat
  word : Word
  deriving DecidableEq, Repr

/-- Model faults (60_exceptions.md R237). -/
inductive Fault where
  /-- UNINIT: the command at `event.position` read a register not written since reset (10_state.md R23). Raised by
  `State.observation` for the run as a whole, never by `step`: the hardware goes on computing, and so does the step (log
  entry 2). SAFE as a verdict on the run: a faulted run has no observation. The step that goes on is unsafe (log
  entries 1 and 2). -/
  | uninit (event : UninitEvent)
  deriving DecidableEq, Repr

/-- Refusals of a step. -/
inductive Refusal where
  /-- Raised only by an arm of `exec` for an instruction without a meaning; no arm is one. SAFE. -/
  | notModelled (mnemonic : String)
  /-- Raised by `step` when the host action at the front is an access of `bits` ≠ 32 bits: "A model refuses a host access
  narrower or wider than 32 bits" (20_memory.md R53). SAFE: no claim holds of a run that makes one. -/
  | accessWidth (bits : Nat)
  deriving DecidableEq, Repr

/-- The state of the block, and below it the model's own records. -/
structure State where
  /-- X0 .. X15 (10_state.md R20). -/
  regs : Vector Word 16
  /-- Which of X0 .. X15 are written since reset (10_state.md R23). -/
  written : Vector Bool 16
  /-- STATUS (10_state.md R25): DZ in bit 0, ILL in bit 1, bits 31:2 reserved. -/
  status : Word
  /-- The host actions not yet performed, in the port's order (20_memory.md R59, 70_reset_and_hazards.md R263, R266). -/
  pending : List HostAction
  /-- MODEL: the number, counted from 1, of the last host action taken (60_exceptions.md R227). -/
  position : Nat
  /-- MODEL: the exception record, oldest first (60_exceptions.md R227). -/
  exceptions : List ExceptionEvent
  /-- MODEL: the reads of registers not written since reset, oldest first (10_state.md R23). -/
  uninits : List UninitEvent
  /-- MODEL: what host reads returned, oldest first (70_reset_and_hazards.md R266). -/
  returned : List HostReturn
  /-- MODEL: how many reset actions have been performed; the key of the free values of 10_state.md R23. -/
  epoch : Nat
  deriving DecidableEq, Repr

/-- The block just after reset (10_state.md R31, 70_reset_and_hazards.md R260), at the start of a run: no register is marked
written, STATUS is 0, no host access is pending, and every record is empty. The register words are `Config.resetWord`
(DESIGN CHOICE, unsafe; log entry 1). -/
def State.reset : State where
  regs := Vector.replicate 16 Config.resetWord
  written := Vector.replicate 16 false
  status := 0
  pending := []
  position := 0
  exceptions := []
  uninits := []
  returned := []
  epoch := 0

end Sys2Proof.Machine
end

