-- ==== Sys2Proof/Machine/Flags.lean ====
section
/-! DEFINITION. Sys2Proof/Machine/Flags.lean: STATUS and its flags (10_state.md R25, R26), and the output fault_o (R30). The
block has no other flag: "no condition codes, no carry or overflow flags" (R27). -/

namespace Sys2Proof.Machine

/-- The implemented bits of STATUS: DZ and ILL. -/
def statusMask : Word := 0x00000003

/-- "The cause code is the number of the STATUS bit the exception sets" (60_exceptions.md R220). -/
def Cause.code : Cause → Nat
  | .divideByZero => 0
  | .illegalCommand => 1

/-- The STATUS bit of a cause. -/
def Cause.flag (c : Cause) : Word := 1#32 <<< c.code

/-- STATUS.DZ. -/
def State.dz (s : State) : Bool := s.status.getLsbD 0

/-- STATUS.ILL. -/
def State.ill (s : State) : Bool := s.status.getLsbD 1

/-- The flag of a cause, as it stands in STATUS. -/
def State.flagSet (s : State) (c : Cause) : Bool := s.status.getLsbD c.code

/-- What a read of STATUS returns: bits 31:2 read as zero (10_state.md R25). -/
def State.statusRead (s : State) : Word := s.status &&& statusMask

/-- STATUS with the flag of a cause set; sticky (60_exceptions.md R226). -/
def setFlag (c : Cause) (status : Word) : Word := status ||| c.flag

/-- STATUS after a host write of `v`: each flag whose bit of `v` is 1 is cleared, the others stay, and no bit is set
(10_state.md R26). -/
def clearFlags (v status : Word) : Word := status &&& ~~~(v &&& statusMask)

/-- fault_o: "1 exactly when STATUS.DZ = 1 or STATUS.ILL = 1" (10_state.md R30). -/
def State.faultO (s : State) : Bool := s.dz || s.ill

end Sys2Proof.Machine
end

