-- ==== Sys2Proof/Machine/Ops.lean ====
section
/-! DEFINITION. Sys2Proof/Machine/Ops.lean: the named operations over the registers, STATUS and the records, and taking an
exception. The block has no memory (20_memory.md R50), so there is none to operate on. -/

namespace Sys2Proof.Machine

/-! ### Registers (10_state.md R20 to R23) -/

/-- `x[r]`: the word in Xr (R20). No register is hardwired (R22). -/
def State.reg (s : State) (r : Reg) : Word := s.regs.get r

/-- The written mark of Xr (R23). -/
def State.isWritten (s : State) (r : Reg) : Bool := s.written.get r

/-- `x[r] <- v`: Xr holds v and is marked written (R21, R23). -/
def State.writeReg (s : State) (r : Reg) (v : Word) : State :=
  { s with regs := s.regs.set r v, written := s.written.set r true }

/-- The UNINIT events of a command that reads the registers `rs`: one for each that is not written since reset (R23). -/
def State.uninitEvents (s : State) (rs : List Reg) : List UninitEvent :=
  (rs.filter fun r => !s.isWritten r).map fun r => ⟨s.position, r⟩

/-- A command reads the registers `rs`: reading changes no register; each read of a register not written since reset is
recorded (R23; log entry 2). -/
def State.noteReads (s : State) (rs : List Reg) : State :=
  { s with uninits := s.uninits ++ s.uninitEvents rs }

/-! ### Exceptions (60_exceptions.md section 1 and 2) -/

/-- Taking an exception: the STATUS bit of the cause becomes 1 and the record gains the event; nothing else changes (R221,
R222, R227). "An exception saves no state, changes no mode, has no vector table and transfers no control" (R223). -/
def State.raise (s : State) (c : Cause) : State :=
  { s with
    status := setFlag c s.status
    exceptions := s.exceptions ++ [⟨s.position, c⟩] }

/-- What stands in the place of a return from exception: "There is no return-from-exception" (R226); the host clears the
flags by a write to STATUS (10_state.md R26). The record stays: "The host cannot clear that record" (R227). -/
def State.writeStatus (s : State) (v : Word) : State :=
  { s with status := clearFlags v s.status }

/-- The end of every command: it writes its result to rd (`some`), or raises DivideByZero and writes no register (`none`)
(10_state.md R21, 60_exceptions.md R221). -/
def State.finish (s : State) (rd : Reg) : Option Word → State
  | some v => s.writeReg rd v
  | none => s.raise .divideByZero

/-! ### Host actions -/

/-- The block takes the host action at the front of the port: the others stay pending, and the position counts it. -/
def State.accept (s : State) (rest : List HostAction) : State :=
  { s with pending := rest, position := s.position + 1 }

/-- A host read returns `v` (70_reset_and_hazards.md R266); it changes nothing in the block (20_memory.md R55). -/
def State.answer (s : State) (v : Word) : State :=
  { s with returned := s.returned ++ [⟨s.position, v⟩] }

/-- Reset (10_state.md R31, 70_reset_and_hazards.md R260): STATUS is 0, no X register is marked written, and each holds a word
the spec does not give (`Config.resetWord`; log entry 1). The records are not hardware state and stay (log entry 5). -/
def State.applyReset (s : State) : State :=
  { s with
    regs := Vector.replicate 16 Config.resetWord
    written := Vector.replicate 16 false
    status := 0
    epoch := s.epoch + 1 }

end Sys2Proof.Machine
end

