-- ==== Sys2Proof/Machine/Operands.lean ====
section
/-! DEFINITION. Sys2Proof/Machine/Operands.lean: the operand classes of 30_encoding.md R75 as ways to run a command. Every
source is read before rd is written (00_scope.md R10); a result of `none` is DivideByZero. -/

namespace Sys2Proof.Machine

/-- The outcome type of a command. -/
abbrev Result := Host.Outcome State Fault Refusal

/-- Class S1: one source. -/
def runS1 (rd a : Reg) (f : Word → Option Word) (s : State) : Result :=
  .next ((s.noteReads [a]).finish rd (f (s.reg a)))

/-- Class S2: two sources. -/
def runS2 (rd a b : Reg) (f : Word → Word → Option Word) (s : State) : Result :=
  .next ((s.noteReads [a, b]).finish rd (f (s.reg a) (s.reg b)))

/-- Class S3: three sources. -/
def runS3 (rd a b c : Reg) (f : Word → Word → Word → Option Word) (s : State) : Result :=
  .next ((s.noteReads [a, b, c]).finish rd (f (s.reg a) (s.reg b) (s.reg c)))

/-- Class IMM where no register is read (LDH). -/
def runImm (rd : Reg) (v : Word) (s : State) : Result :=
  .next (s.finish rd (some v))

end Sys2Proof.Machine
end

