-- ==== Sys2Proof/Machine/Sqrt.lean ====
section
/-! DEFINITION. Sys2Proof/Machine/Sqrt.lean: the square root (43_sqrt.md R200, R201; 90_conflicts.md C2 and C5: 24 masks, exact
squares). -/

namespace Sys2Proof.Machine

/-- The digit-by-digit loop of R200 from bit `k - 1` down to bit 0, with the exact bound `target` = u · 65536. -/
def sqrtLoop (target : Nat) : Nat → Nat → Nat
  | 0, res => res
  | k + 1, res =>
    let c := res ||| (1 <<< k)
    sqrtLoop target k (if c * c ≤ target then c else res)

/-- `S(u)`, u in [0, 2^31]: the 24 masks from bit 23 down to bit 0 (R200). -/
def sqrtMagnitude (u : Nat) : Nat := sqrtLoop (u * 65536) 24 0

/-- `sqrtf(a)`: S(a), or the negation of S(|a|) where a < 0 (R200, decision D22). -/
def sqrtf (a : Word) : Word :=
  if a.toInt < 0 then s32 (-(sqrtMagnitude (absMath a) : Int)) else s32 (sqrtMagnitude a.toNat)

/-- SQRT (R201): a negative input is not an error. -/
def execSqrt (rd a : Reg) (s : State) : Result := runS1 rd a (fun x => some (sqrtf x)) s

end Sys2Proof.Machine
end

