-- ==== Sys2Proof/Machine/InverseTrig.lean ====
section
/-! DEFINITION. Sys2Proof/Machine/InverseTrig.lean: the inverse trigonometric approximator (42_inverse_trig.md R171 to R177),
composed from the block's own xadd, xsub, xmul, xdiv and sqrtf (R170). A result of `none` is DivideByZero. -/

namespace Sys2Proof.Machine

/-- ATAN_POLY(r): the reference cubic, an angle offset in xang units (R172). -/
def atanPoly (r : Word) : Word :=
  let t := xmul (xmul r r) r
  let p := s32 (128 * t.toInt - 640 * r.toInt)
  s32 (asr (s32 (p.toInt + 0x8000)).toInt 16)

/-- atan2f's numerator: x - |y| for x >= 0, else x + |y| (R171). -/
def atan2Num (ay x : Word) : Word := if 0 ≤ x.toInt then xsub x ay else xadd x ay

/-- atan2f's denominator: x + |y| for x >= 0, else |y| - x (R171). -/
def atan2Den (ay x : Word) : Word := if 0 ≤ x.toInt then xadd x ay else xsub ay x

/-- atan2f's base angle: 45 degrees for x >= 0, else 135 degrees (R171). -/
def atan2Base (x : Word) : Word := if 0 ≤ x.toInt then Config.xang45 else Config.xang135

/-- The last steps of atan2f, from the ratio r to the angle: base + ATAN_POLY(r), reflected for y < 0 unless it is 0, and
wrapped into [0, 4096) (R171, decision D19). -/
def atan2Angle (y x r : Word) : Word :=
  let ang := xadd (atan2Base x) (atanPoly r)
  awrap (if y.toInt < 0 ∧ ang ≠ 0 then xsub Config.xang360 ang else ang)

/-- The branch for x = XINT1 with extreme y (R173). -/
def atan2Special (y x : Word) : Bool :=
  Config.atan2XoneSpecial && decide (x = Config.xint1) && decide (Config.atan2XoneBand ≤ absMath y)

/-- `atan2f(y, x)` (R171). -/
def atan2f (y x : Word) : Option Word :=
  if y = 0 ∧ x = 0 then some Config.xang0
  else if atan2Special y x then some (if 0 < y.toInt then Config.xang90 else Config.xang270)
  else (xdivGuarded (atan2Num (xabs y) x) (atan2Den (xabs y) x)).map (atan2Angle y x)

/-- `sqrtf(xsub(0x00010000, xmul(a, a)))`, the s of R176 and R177. -/
def cosineOf (a : Word) : Word := sqrtf (xsub Config.xint1 (xmul a a))

/-- ASIN's result, by the pseudocode of R176 (log entry 13). -/
def asinWord (a : Word) : Option Word :=
  if a.toInt ≤ -0x00010000 then some Config.xang270
  else if 0x00010000 ≤ a.toInt then some Config.xang90
  else if absMath a < Config.asinEps then some Config.xang0
  else (xdivGuarded a (cosineOf a)).bind fun q => atan2f q Config.xint1

/-- ACOS's last step: the 180 degree correction for a < 0, wrapped into [0, 4096) (R177). -/
def acosCorrect (a res : Word) : Word := if a.toInt < 0 then awrap (s32 (res.toInt + 2048)) else res

/-- ACOS's result (R177). -/
def acosWord (a : Word) : Option Word :=
  if a.toInt ≤ -0x00010000 then some Config.xang180
  else if 0x00010000 ≤ a.toInt then some Config.xang0
  else if absMath a < Config.acosEps then some Config.xang90
  else ((xdivGuarded (cosineOf a) a).bind fun q => atan2f q Config.xint1).map (acosCorrect a)

/-- ATAN2 (R174): DivideByZero where atan2f has no result. -/
def execAtan2 (rd y x : Reg) (s : State) : Result := runS2 rd y x atan2f s

/-- ATAN (R175): atan2f(a, XINT1). -/
def execAtan (rd a : Reg) (s : State) : Result := runS1 rd a (fun v => atan2f v Config.xint1) s

/-- ASIN (R176). -/
def execAsin (rd a : Reg) (s : State) : Result := runS1 rd a asinWord s

/-- ACOS (R177). -/
def execAcos (rd a : Reg) (s : State) : Result := runS1 rd a acosWord s

end Sys2Proof.Machine
end

