-- ==== Sys2Proof/Machine/Move.lean ====
section
/-! DEFINITION. Sys2Proof/Machine/Move.lean: the register moves and constants (44_register_move.md R209 to R212). -/

namespace Sys2Proof.Machine

/-- LDH's word: imm16 in bits 31:16, zero below (R210; 30_encoding.md R74). -/
def ldhWord (imm : Imm16) : Word := imm ++ 0#16

/-- LDL's word: bits 31:16 of the old word, imm16 below (R211). -/
def ldlWord (old : Word) (imm : Imm16) : Word := (old &&& 0xFFFF0000) ||| imm.setWidth 32

/-- LDH (R210): it reads no register. -/
def execLdh (rd : Reg) (imm : Imm16) (s : State) : Result := runImm rd (ldhWord imm) s

/-- LDL (R211): "the only command in the block that reads its destination register" (R209). -/
def execLdl (rd : Reg) (imm : Imm16) (s : State) : Result := runS1 rd rd (fun old => some (ldlWord old imm)) s

/-- MOV (R212): MOV xN, xN still reads xN. -/
def execMov (rd rs : Reg) (s : State) : Result := runS1 rd rs some s

end Sys2Proof.Machine
end

