-- ==== Sys2Proof/Machine/Scalar.lean ====
section
/-! DEFINITION. Sys2Proof/Machine/Scalar.lean: the Q16.16 scalar arithmetic commands (40_q16_arith.md R101 to R113). No
command writes a flag; overflow is silent (R114); comparisons are signed (R117). -/

namespace Sys2Proof.Machine

/-! ### What each command computes -/

/-- MOD's result (R105): no result where b = 0, else s32(trem(a, b)) on the raw words. -/
def modWords (a b : Word) : Option Word := if b = 0 then none else some (s32 (trem a.toInt b.toInt))

/-- MIN's result (R107). -/
def minWord (a b : Word) : Word := if a.toInt < b.toInt then a else b

/-- MAX's result (R108). -/
def maxWord (a b : Word) : Word := if a.toInt > b.toInt then a else b

/-- CLAMP's result: two comparisons in a fixed order (R109, decision D13). -/
def clampWord (a lo hi : Word) : Word :=
  if a.toInt < lo.toInt then lo else if a.toInt > hi.toInt then hi else a

/-- CEIL's result (R111, decision D14). -/
def ceilWord (a : Word) : Word :=
  if a.extractLsb' 0 16 = 0 then a else xadd (xfloor a) Config.xint1

/-- ROUND's result (R112). -/
def roundWord (a : Word) : Word := xfloor (xadd a 0x00008000)

/-- LERP's result: a + (b - a) · t, each step wrapping (R113). -/
def lerpWord (a b t : Word) : Word := xadd a (xmul (xsub b a) t)

/-! ### The commands -/

/-- ADD (R101). -/
def execAdd (rd a b : Reg) (s : State) : Result := runS2 rd a b (fun x y => some (xadd x y)) s

/-- SUB (R102). -/
def execSub (rd a b : Reg) (s : State) : Result := runS2 rd a b (fun x y => some (xsub x y)) s

/-- MUL (R103). -/
def execMul (rd a b : Reg) (s : State) : Result := runS2 rd a b (fun x y => some (xmul x y)) s

/-- DIV (R104): DivideByZero where the divisor is 0. -/
def execDiv (rd a b : Reg) (s : State) : Result := runS2 rd a b xdivGuarded s

/-- MOD (R105): DivideByZero where the divisor is 0. -/
def execMod (rd a b : Reg) (s : State) : Result := runS2 rd a b modWords s

/-- ABS (R106). -/
def execAbs (rd a : Reg) (s : State) : Result := runS1 rd a (fun x => some (xabs x)) s

/-- MIN (R107). -/
def execMin (rd a b : Reg) (s : State) : Result := runS2 rd a b (fun x y => some (minWord x y)) s

/-- MAX (R108). -/
def execMax (rd a b : Reg) (s : State) : Result := runS2 rd a b (fun x y => some (maxWord x y)) s

/-- CLAMP (R109). -/
def execClamp (rd a lo hi : Reg) (s : State) : Result :=
  runS3 rd a lo hi (fun x l h => some (clampWord x l h)) s

/-- FLOOR (R110). -/
def execFloor (rd a : Reg) (s : State) : Result := runS1 rd a (fun x => some (xfloor x)) s

/-- CEIL (R111). -/
def execCeil (rd a : Reg) (s : State) : Result := runS1 rd a (fun x => some (ceilWord x)) s

/-- ROUND (R112). -/
def execRound (rd a : Reg) (s : State) : Result := runS1 rd a (fun x => some (roundWord x)) s

/-- LERP (R113). -/
def execLerp (rd a b t : Reg) (s : State) : Result :=
  runS3 rd a b t (fun x y u => some (lerpWord x y u)) s

end Sys2Proof.Machine
end

