-- ==== Sys2Proof/Machine/Rom.lean ====
section
/-! DEFINITION. Sys2Proof/Machine/Rom.lean: the two ROMs (10_state.md R28), transcribed row by row from 41_angle_trig.md R146 and
R148 and completed by the symmetries those rules give. Nothing writes them (R28), so they are constants and not State (log
entry 11). -/

namespace Sys2Proof.Machine

/-- SIN_LUT, entries 0 to 255, 16 to a row. -/
def sinRows0 : List (List Nat) := [
  [0, 101, 201, 302, 402, 503, 603, 704, 804, 905, 1005, 1106, 1206, 1307, 1407, 1508],
  [1608, 1709, 1809, 1910, 2010, 2111, 2211, 2312, 2412, 2513, 2613, 2714, 2814, 2914, 3015, 3115],
  [3216, 3316, 3417, 3517, 3617, 3718, 3818, 3918, 4019, 4119, 4219, 4320, 4420, 4520, 4621, 4721],
  [4821, 4921, 5022, 5122, 5222, 5322, 5422, 5523, 5623, 5723, 5823, 5923, 6023, 6123, 6224, 6324],
  [6424, 6524, 6624, 6724, 6824, 6924, 7024, 7124, 7224, 7323, 7423, 7523, 7623, 7723, 7823, 7923],
  [8022, 8122, 8222, 8322, 8421, 8521, 8621, 8720, 8820, 8919, 9019, 9119, 9218, 9318, 9417, 9517],
  [9616, 9716, 9815, 9914, 10014, 10113, 10212, 10312, 10411, 10510, 10609, 10709, 10808, 10907, 11006, 11105],
  [11204, 11303, 11402, 11501, 11600, 11699, 11798, 11897, 11996, 12095, 12193, 12292, 12391, 12490, 12588, 12687],
  [12785, 12884, 12983, 13081, 13180, 13278, 13376, 13475, 13573, 13672, 13770, 13868, 13966, 14065, 14163, 14261],
  [14359, 14457, 14555, 14653, 14751, 14849, 14947, 15045, 15143, 15240, 15338, 15436, 15534, 15631, 15729, 15826],
  [15924, 16021, 16119, 16216, 16314, 16411, 16508, 16606, 16703, 16800, 16897, 16994, 17091, 17188, 17285, 17382],
  [17479, 17576, 17673, 17770, 17867, 17963, 18060, 18156, 18253, 18350, 18446, 18543, 18639, 18735, 18832, 18928],
  [19024, 19120, 19216, 19313, 19409, 19505, 19600, 19696, 19792, 19888, 19984, 20080, 20175, 20271, 20366, 20462],
  [20557, 20653, 20748, 20844, 20939, 21034, 21129, 21224, 21320, 21415, 21510, 21604, 21699, 21794, 21889, 21984],
  [22078, 22173, 22268, 22362, 22457, 22551, 22645, 22740, 22834, 22928, 23022, 23116, 23210, 23304, 23398, 23492],
  [23586, 23680, 23774, 23867, 23961, 24054, 24148, 24241, 24335, 24428, 24521, 24614, 24708, 24801, 24894, 24987]]

/-- SIN_LUT, entries 256 to 511, 16 to a row. -/
def sinRows1 : List (List Nat) := [
  [25080, 25172, 25265, 25358, 25451, 25543, 25636, 25728, 25821, 25913, 26005, 26098, 26190, 26282, 26374, 26466],
  [26558, 26650, 26742, 26833, 26925, 27017, 27108, 27200, 27291, 27382, 27474, 27565, 27656, 27747, 27838, 27929],
  [28020, 28111, 28202, 28293, 28383, 28474, 28564, 28655, 28745, 28835, 28926, 29016, 29106, 29196, 29286, 29376],
  [29466, 29555, 29645, 29735, 29824, 29914, 30003, 30093, 30182, 30271, 30360, 30449, 30538, 30627, 30716, 30805],
  [30893, 30982, 31071, 31159, 31248, 31336, 31424, 31512, 31600, 31688, 31776, 31864, 31952, 32040, 32127, 32215],
  [32303, 32390, 32477, 32565, 32652, 32739, 32826, 32913, 33000, 33087, 33173, 33260, 33347, 33433, 33520, 33606],
  [33692, 33778, 33865, 33951, 34037, 34122, 34208, 34294, 34380, 34465, 34551, 34636, 34721, 34806, 34892, 34977],
  [35062, 35146, 35231, 35316, 35401, 35485, 35570, 35654, 35738, 35823, 35907, 35991, 36075, 36159, 36243, 36326],
  [36410, 36493, 36577, 36660, 36744, 36827, 36910, 36993, 37076, 37159, 37241, 37324, 37407, 37489, 37572, 37654],
  [37736, 37818, 37900, 37982, 38064, 38146, 38228, 38309, 38391, 38472, 38554, 38635, 38716, 38797, 38878, 38959],
  [39040, 39120, 39201, 39282, 39362, 39442, 39523, 39603, 39683, 39763, 39843, 39922, 40002, 40082, 40161, 40241],
  [40320, 40399, 40478, 40557, 40636, 40715, 40794, 40872, 40951, 41029, 41108, 41186, 41264, 41342, 41420, 41498],
  [41576, 41653, 41731, 41808, 41886, 41963, 42040, 42117, 42194, 42271, 42348, 42424, 42501, 42578, 42654, 42730],
  [42806, 42882, 42958, 43034, 43110, 43186, 43261, 43337, 43412, 43487, 43562, 43638, 43713, 43787, 43862, 43937],
  [44011, 44086, 44160, 44234, 44308, 44382, 44456, 44530, 44604, 44677, 44751, 44824, 44898, 44971, 45044, 45117],
  [45190, 45262, 45335, 45408, 45480, 45552, 45625, 45697, 45769, 45841, 45912, 45984, 46056, 46127, 46199, 46270]]

/-- SIN_LUT, entries 512 to 767, 16 to a row. -/
def sinRows2 : List (List Nat) := [
  [46341, 46412, 46483, 46554, 46624, 46695, 46765, 46836, 46906, 46976, 47046, 47116, 47186, 47256, 47325, 47395],
  [47464, 47534, 47603, 47672, 47741, 47809, 47878, 47947, 48015, 48084, 48152, 48220, 48288, 48356, 48424, 48491],
  [48559, 48626, 48694, 48761, 48828, 48895, 48962, 49029, 49095, 49162, 49228, 49295, 49361, 49427, 49493, 49559],
  [49624, 49690, 49756, 49821, 49886, 49951, 50016, 50081, 50146, 50211, 50275, 50340, 50404, 50468, 50532, 50596],
  [50660, 50724, 50787, 50851, 50914, 50977, 51041, 51104, 51166, 51229, 51292, 51354, 51417, 51479, 51541, 51603],
  [51665, 51727, 51789, 51850, 51911, 51973, 52034, 52095, 52156, 52217, 52277, 52338, 52398, 52459, 52519, 52579],
  [52639, 52699, 52759, 52818, 52878, 52937, 52996, 53055, 53114, 53173, 53232, 53290, 53349, 53407, 53465, 53523],
  [53581, 53639, 53697, 53754, 53812, 53869, 53926, 53983, 54040, 54097, 54154, 54210, 54267, 54323, 54379, 54435],
  [54491, 54547, 54603, 54658, 54714, 54769, 54824, 54879, 54934, 54989, 55043, 55098, 55152, 55206, 55260, 55314],
  [55368, 55422, 55476, 55529, 55582, 55636, 55689, 55742, 55794, 55847, 55900, 55952, 56004, 56056, 56108, 56160],
  [56212, 56264, 56315, 56367, 56418, 56469, 56520, 56571, 56621, 56672, 56722, 56773, 56823, 56873, 56923, 56972],
  [57022, 57072, 57121, 57170, 57219, 57268, 57317, 57366, 57414, 57463, 57511, 57559, 57607, 57655, 57703, 57750],
  [57798, 57845, 57892, 57939, 57986, 58033, 58079, 58126, 58172, 58219, 58265, 58311, 58356, 58402, 58448, 58493],
  [58538, 58583, 58628, 58673, 58718, 58763, 58807, 58851, 58896, 58940, 58983, 59027, 59071, 59114, 59158, 59201],
  [59244, 59287, 59330, 59372, 59415, 59457, 59499, 59541, 59583, 59625, 59667, 59708, 59750, 59791, 59832, 59873],
  [59914, 59954, 59995, 60035, 60075, 60116, 60156, 60195, 60235, 60275, 60314, 60353, 60392, 60431, 60470, 60509]]

/-- SIN_LUT, entries 768 to 1023, 16 to a row. -/
def sinRows3 : List (List Nat) := [
  [60547, 60586, 60624, 60662, 60700, 60738, 60776, 60813, 60851, 60888, 60925, 60962, 60999, 61035, 61072, 61108],
  [61145, 61181, 61217, 61253, 61288, 61324, 61359, 61394, 61429, 61464, 61499, 61534, 61568, 61603, 61637, 61671],
  [61705, 61739, 61772, 61806, 61839, 61873, 61906, 61939, 61971, 62004, 62036, 62069, 62101, 62133, 62165, 62197],
  [62228, 62260, 62291, 62322, 62353, 62384, 62415, 62445, 62476, 62506, 62536, 62566, 62596, 62626, 62655, 62685],
  [62714, 62743, 62772, 62801, 62830, 62858, 62886, 62915, 62943, 62971, 62998, 63026, 63054, 63081, 63108, 63135],
  [63162, 63189, 63215, 63242, 63268, 63294, 63320, 63346, 63372, 63397, 63423, 63448, 63473, 63498, 63523, 63547],
  [63572, 63596, 63621, 63645, 63668, 63692, 63716, 63739, 63763, 63786, 63809, 63832, 63854, 63877, 63899, 63922],
  [63944, 63966, 63987, 64009, 64031, 64052, 64073, 64094, 64115, 64136, 64156, 64177, 64197, 64217, 64237, 64257],
  [64277, 64296, 64316, 64335, 64354, 64373, 64392, 64410, 64429, 64447, 64465, 64483, 64501, 64519, 64536, 64554],
  [64571, 64588, 64605, 64622, 64639, 64655, 64672, 64688, 64704, 64720, 64735, 64751, 64766, 64782, 64797, 64812],
  [64827, 64841, 64856, 64870, 64884, 64899, 64912, 64926, 64940, 64953, 64967, 64980, 64993, 65006, 65018, 65031],
  [65043, 65055, 65067, 65079, 65091, 65103, 65114, 65126, 65137, 65148, 65159, 65169, 65180, 65190, 65200, 65210],
  [65220, 65230, 65240, 65249, 65259, 65268, 65277, 65286, 65294, 65303, 65311, 65320, 65328, 65336, 65343, 65351],
  [65358, 65366, 65373, 65380, 65387, 65393, 65400, 65406, 65413, 65419, 65425, 65430, 65436, 65442, 65447, 65452],
  [65457, 65462, 65467, 65471, 65476, 65480, 65484, 65488, 65492, 65495, 65499, 65502, 65505, 65508, 65511, 65514],
  [65516, 65519, 65521, 65523, 65525, 65527, 65528, 65530, 65531, 65532, 65533, 65534, 65535, 65535, 65536, 65536]]

/-- TAN_LUT, entries 0 to 255, 16 to a row. -/
def tanRows0 : List (List Nat) := [
  [0, 101, 201, 302, 402, 503, 603, 704, 804, 905, 1005, 1106, 1207, 1307, 1408, 1508],
  [1609, 1709, 1810, 1911, 2011, 2112, 2213, 2313, 2414, 2515, 2615, 2716, 2817, 2917, 3018, 3119],
  [3220, 3320, 3421, 3522, 3623, 3724, 3825, 3925, 4026, 4127, 4228, 4329, 4430, 4531, 4632, 4733],
  [4834, 4935, 5036, 5138, 5239, 5340, 5441, 5542, 5644, 5745, 5846, 5948, 6049, 6150, 6252, 6353],
  [6455, 6556, 6658, 6759, 6861, 6963, 7064, 7166, 7268, 7370, 7471, 7573, 7675, 7777, 7879, 7981],
  [8083, 8185, 8287, 8389, 8492, 8594, 8696, 8798, 8901, 9003, 9106, 9208, 9311, 9413, 9516, 9619],
  [9721, 9824, 9927, 10030, 10133, 10236, 10339, 10442, 10545, 10648, 10751, 10854, 10958, 11061, 11165, 11268],
  [11372, 11475, 11579, 11682, 11786, 11890, 11994, 12098, 12202, 12306, 12410, 12514, 12618, 12723, 12827, 12931],
  [13036, 13140, 13245, 13350, 13454, 13559, 13664, 13769, 13874, 13979, 14084, 14189, 14295, 14400, 14506, 14611],
  [14717, 14822, 14928, 15034, 15140, 15246, 15352, 15458, 15564, 15670, 15776, 15883, 15989, 16096, 16202, 16309],
  [16416, 16523, 16630, 16737, 16844, 16951, 17058, 17166, 17273, 17381, 17489, 17596, 17704, 17812, 17920, 18028],
  [18136, 18245, 18353, 18461, 18570, 18679, 18787, 18896, 19005, 19114, 19223, 19332, 19442, 19551, 19661, 19770],
  [19880, 19990, 20100, 20210, 20320, 20430, 20541, 20651, 20762, 20872, 20983, 21094, 21205, 21316, 21427, 21539],
  [21650, 21762, 21873, 21985, 22097, 22209, 22321, 22433, 22546, 22658, 22771, 22884, 22997, 23110, 23223, 23336],
  [23449, 23563, 23676, 23790, 23904, 24018, 24132, 24246, 24360, 24475, 24590, 24704, 24819, 24934, 25049, 25165],
  [25280, 25396, 25511, 25627, 25743, 25859, 25975, 26092, 26208, 26325, 26442, 26559, 26676, 26793, 26911, 27028]]

/-- TAN_LUT, entries 256 to 511, 16 to a row. -/
def tanRows1 : List (List Nat) := [
  [27146, 27264, 27382, 27500, 27618, 27737, 27855, 27974, 28093, 28212, 28331, 28451, 28570, 28690, 28810, 28930],
  [29050, 29170, 29291, 29412, 29533, 29654, 29775, 29896, 30018, 30139, 30261, 30383, 30506, 30628, 30751, 30873],
  [30996, 31119, 31243, 31366, 31490, 31614, 31738, 31862, 31986, 32111, 32236, 32360, 32486, 32611, 32736, 32862],
  [32988, 33114, 33240, 33367, 33494, 33621, 33748, 33875, 34002, 34130, 34258, 34386, 34514, 34643, 34772, 34901],
  [35030, 35159, 35289, 35418, 35548, 35679, 35809, 35940, 36071, 36202, 36333, 36465, 36596, 36728, 36861, 36993],
  [37126, 37259, 37392, 37525, 37659, 37793, 37927, 38061, 38196, 38330, 38465, 38601, 38736, 38872, 39008, 39144],
  [39281, 39418, 39555, 39692, 39829, 39967, 40105, 40244, 40382, 40521, 40660, 40799, 40939, 41079, 41219, 41360],
  [41500, 41641, 41782, 41924, 42066, 42208, 42350, 42493, 42636, 42779, 42923, 43066, 43210, 43355, 43500, 43644],
  [43790, 43935, 44081, 44227, 44374, 44521, 44668, 44815, 44963, 45111, 45259, 45408, 45557, 45706, 45856, 46005],
  [46156, 46306, 46457, 46608, 46760, 46912, 47064, 47216, 47369, 47523, 47676, 47830, 47984, 48139, 48294, 48449],
  [48605, 48761, 48917, 49074, 49231, 49388, 49546, 49704, 49863, 50022, 50181, 50341, 50501, 50661, 50822, 50983],
  [51145, 51307, 51469, 51632, 51795, 51958, 52122, 52287, 52451, 52617, 52782, 52948, 53114, 53281, 53448, 53616],
  [53784, 53952, 54121, 54291, 54460, 54631, 54801, 54972, 55144, 55316, 55488, 55661, 55834, 56008, 56182, 56357],
  [56532, 56707, 56883, 57060, 57237, 57414, 57592, 57771, 57950, 58129, 58309, 58489, 58670, 58851, 59033, 59216],
  [59398, 59582, 59766, 59950, 60135, 60320, 60506, 60693, 60880, 61067, 61255, 61444, 61633, 61823, 62013, 62204],
  [62395, 62587, 62780, 62973, 63167, 63361, 63556, 63751, 63947, 64143, 64341, 64538, 64737, 64936, 65135, 65335]]

/-- TAN_LUT, entries 512 to 767, 16 to a row. -/
def tanRows2 : List (List Nat) := [
  [65536, 65737, 65939, 66142, 66345, 66549, 66754, 66959, 67165, 67371, 67578, 67786, 67994, 68203, 68413, 68624],
  [68835, 69046, 69259, 69472, 69686, 69900, 70116, 70332, 70548, 70766, 70984, 71203, 71422, 71642, 71864, 72085],
  [72308, 72531, 72755, 72980, 73206, 73432, 73659, 73887, 74116, 74345, 74576, 74807, 75039, 75271, 75505, 75739],
  [75974, 76210, 76447, 76685, 76924, 77163, 77404, 77645, 77887, 78130, 78374, 78618, 78864, 79111, 79358, 79607],
  [79856, 80106, 80357, 80609, 80863, 81117, 81372, 81628, 81885, 82143, 82402, 82662, 82923, 83184, 83448, 83712],
  [83977, 84243, 84510, 84778, 85047, 85318, 85589, 85862, 86135, 86410, 86686, 86963, 87241, 87520, 87801, 88082],
  [88365, 88649, 88934, 89220, 89508, 89796, 90086, 90377, 90670, 90963, 91258, 91554, 91852, 92150, 92450, 92751],
  [93054, 93358, 93663, 93970, 94277, 94587, 94897, 95209, 95523, 95838, 96154, 96471, 96791, 97111, 97433, 97757],
  [98082, 98408, 98736, 99065, 99396, 99729, 100063, 100399, 100736, 101075, 101415, 101757, 102101, 102447, 102794, 103142],
  [103493, 103845, 104199, 104554, 104911, 105270, 105631, 105994, 106358, 106724, 107092, 107462, 107834, 108208, 108583, 108961],
  [109340, 109722, 110105, 110490, 110877, 111267, 111658, 112051, 112447, 112844, 113244, 113646, 114050, 114456, 114864, 115275],
  [115687, 116102, 116519, 116939, 117361, 117785, 118211, 118640, 119071, 119505, 119941, 120379, 120820, 121264, 121710, 122158],
  [122609, 123063, 123519, 123978, 124440, 124904, 125371, 125841, 126314, 126789, 127267, 127748, 128232, 128719, 129209, 129702],
  [130198, 130696, 131198, 131703, 132211, 132723, 133237, 133755, 134276, 134800, 135327, 135858, 136393, 136930, 137471, 138016],
  [138564, 139116, 139671, 140230, 140793, 141359, 141929, 142503, 143081, 143663, 144248, 144838, 145432, 146029, 146631, 147237],
  [147847, 148461, 149080, 149703, 150330, 150962, 151598, 152239, 152884, 153534, 154189, 154848, 155512, 156181, 156855, 157534]]

/-- TAN_LUT, entries 768 to 1023, 16 to a row. -/
def tanRows3 : List (List Nat) := [
  [158218, 158907, 159601, 160300, 161005, 161715, 162430, 163151, 163878, 164610, 165347, 166091, 166840, 167595, 168356, 169123],
  [169896, 170675, 171460, 172252, 173051, 173855, 174667, 175485, 176309, 177141, 177979, 178825, 179677, 180537, 181404, 182279],
  [183161, 184050, 184948, 185853, 186766, 187687, 188616, 189553, 190499, 191453, 192416, 193388, 194368, 195357, 196356, 197363],
  [198380, 199407, 200443, 201489, 202544, 203610, 204686, 205773, 206870, 207977, 209096, 210225, 211366, 212518, 213681, 214856],
  [216043, 217242, 218454, 219677, 220914, 222163, 223426, 224701, 225990, 227293, 228610, 229941, 231286, 232646, 234021, 235411],
  [236817, 238238, 239675, 241128, 242598, 244084, 245588, 247109, 248648, 250204, 251780, 253373, 254986, 256618, 258270, 259942],
  [261634, 263348, 265082, 266838, 268617, 270417, 272241, 274088, 275959, 277854, 279774, 281720, 283691, 285689, 287713, 289765],
  [291845, 293954, 296091, 298259, 300457, 302686, 304947, 307241, 309568, 311929, 314324, 316755, 319222, 321727, 324269, 326851],
  [329472, 332134, 334837, 337584, 340374, 343208, 346089, 349017, 351993, 355019, 358095, 361223, 364405, 367641, 370934, 374284],
  [377693, 381164, 384696, 388293, 391956, 395687, 399487, 403359, 407305, 411327, 415428, 419608, 423872, 428221, 432658, 437186],
  [441808, 446526, 451344, 456265, 461292, 466428, 471678, 477046, 482534, 488148, 493892, 499770, 505787, 511949, 518259, 524725],
  [531352, 538145, 545112, 552259, 559593, 567122, 574854, 582796, 590958, 599349, 607979, 616858, 625997, 635407, 645102, 655095],
  [665398, 676028, 686999, 698329, 710035, 722138, 734656, 747612, 761030, 774935, 789353, 804314, 819850, 835993, 852780, 870252],
  [888450, 907421, 927215, 947888, 969499, 992113, 1015802, 1040646, 1066730, 1094150, 1123011, 1153431, 1185539, 1219479, 1255414, 1293525],
  [1334016, 1377117, 1423089, 1472229, 1524877, 1581422, 1642314, 1708075, 1779314, 1856744, 1941210, 2033717, 2135471, 2247933, 2372887, 2512538],
  [2669641, 2847686, 3051162, 3285936, 3559834, 3883525, 4271948, 4746679, 5340086, 6103027, 7120271, 8544398, 10680573, 14240843, 21361348, 42722796]]

/-- The rows of SIN_LUT[0..1023]. -/
def sinRows : List (List Nat) := sinRows0 ++ sinRows1 ++ sinRows2 ++ sinRows3

/-- The rows of TAN_LUT[0..1023]. -/
def tanRows : List (List Nat) := tanRows0 ++ tanRows1 ++ tanRows2 ++ tanRows3

/-- Entry `i` of a table of rows of 16. -/
def entryAt (rows : List (List Nat)) (i : Nat) : Nat := (rows.getD (i / 16) []).getD (i % 16) 0

/-- The first quadrant of the sine, SIN_LUT[0..1024]; the last entry is the peak 65536 (R145, R146). -/
def sinQuarter (i : Nat) : Nat := if i = 1024 then 65536 else entryAt sinRows i

/-- The first half turn: "SIN_LUT[2048 - i] = SIN_LUT[i] for i = 1..1024" (R146). -/
def sinHalf (i : Nat) : Nat := if i ≤ 1024 then sinQuarter i else sinQuarter (2048 - i)

/-- SIN_LUT[i], i in 0..4095: "SIN_LUT[i + 2048] = -SIN_LUT[i] for i = 0..2047" (R146). -/
def sinLut (i : Nat) : Word := if i < 2048 then s32 (sinHalf i) else s32 (-(sinHalf (i - 2048) : Int))

/-- TAN_LUT[i], i in 0..2047: TAN_ASYM at 1024, and "TAN_LUT[2048 - i] = -TAN_LUT[i] for i = 1..1023" (R148). -/
def tanLut (i : Nat) : Word :=
  if i < 1024 then s32 (entryAt tanRows i)
  else if i = 1024 then Config.tanAsym
  else s32 (-(entryAt tanRows (2048 - i) : Int))

end Sys2Proof.Machine
end

