-- ==== Sys2Proof/Machine/Trig.lean ====
section
/-! DEFINITION. Sys2Proof/Machine/Trig.lean: the angle wrap and the lookup-table commands (41_angle_trig.md R142 to R149).
Every operand is folded by `awrap` before it indexes a table; none of these raises an exception (R140). -/

namespace Sys2Proof.Machine

/-- SIN's result: SIN_LUT[awrap(a)] (R143). -/
def sinWord (a : Word) : Word := sinLut (awrap a).toNat

/-- COS's result: SIN_LUT[awrap(xadd(a, 1024))] (R144). -/
def cosWord (a : Word) : Word := sinLut (awrap (xadd a Config.xang90)).toNat

/-- TAN's result: TAN_LUT[awrap(a) mod 2048] (R149; 90_conflicts.md C1). -/
def tanWord (a : Word) : Word := tanLut ((awrap a).toNat % 2048)

/-- AWRAP (R142). -/
def execAwrap (rd a : Reg) (s : State) : Result := runS1 rd a (fun x => some (awrap x)) s

/-- SIN (R143). -/
def execSin (rd a : Reg) (s : State) : Result := runS1 rd a (fun x => some (sinWord x)) s

/-- COS (R144). -/
def execCos (rd a : Reg) (s : State) : Result := runS1 rd a (fun x => some (cosWord x)) s

/-- TAN (R149). -/
def execTan (rd a : Reg) (s : State) : Result := runS1 rd a (fun x => some (tanWord x)) s

end Sys2Proof.Machine
end

