-- ==== Sys2Proof/Machine/Dispatch.lean ====
section
/-! DEFINITION. Sys2Proof/Machine/Dispatch.lean: each command to its meaning. -/

namespace Sys2Proof.Machine

def exec (i : Instr) (s : State) : Host.Outcome State Fault Refusal :=
  match i with
  | .add rd a b => Sys2Proof.Machine.execAdd rd a b s
  | .sub rd a b => Sys2Proof.Machine.execSub rd a b s
  | .mul rd a b => Sys2Proof.Machine.execMul rd a b s
  | .div rd a b => Sys2Proof.Machine.execDiv rd a b s
  | .mod rd a b => Sys2Proof.Machine.execMod rd a b s
  | .abs rd a => Sys2Proof.Machine.execAbs rd a s
  | .min rd a b => Sys2Proof.Machine.execMin rd a b s
  | .max rd a b => Sys2Proof.Machine.execMax rd a b s
  | .clamp rd a lo hi => Sys2Proof.Machine.execClamp rd a lo hi s
  | .floor rd a => Sys2Proof.Machine.execFloor rd a s
  | .ceil rd a => Sys2Proof.Machine.execCeil rd a s
  | .round rd a => Sys2Proof.Machine.execRound rd a s
  | .lerp rd a b t => Sys2Proof.Machine.execLerp rd a b t s
  | .awrap rd a => Sys2Proof.Machine.execAwrap rd a s
  | .sin rd a => Sys2Proof.Machine.execSin rd a s
  | .cos rd a => Sys2Proof.Machine.execCos rd a s
  | .tan rd a => Sys2Proof.Machine.execTan rd a s
  | .atan2 rd y x => Sys2Proof.Machine.execAtan2 rd y x s
  | .atan rd a => Sys2Proof.Machine.execAtan rd a s
  | .asin rd a => Sys2Proof.Machine.execAsin rd a s
  | .acos rd a => Sys2Proof.Machine.execAcos rd a s
  | .sqrt rd a => Sys2Proof.Machine.execSqrt rd a s
  | .ldh rd imm => Sys2Proof.Machine.execLdh rd imm s
  | .ldl rd imm => Sys2Proof.Machine.execLdl rd imm s
  | .mov rd rs => Sys2Proof.Machine.execMov rd rs s

end Sys2Proof.Machine
end

