-- ==== Sys2Proof/Machine/HostPort.lean ====
section
/-! DEFINITION. Sys2Proof/Machine/HostPort.lean: the host port (20_memory.md section 2), issuing a command, and performing one
host action. -/

namespace Sys2Proof.Machine

/-- The offset, inside the block's window, of an address of the platform that lies in the window (20_memory.md R52). -/
def windowOffset (address : Nat) : Nat := address - Config.hostBase

/-- What an offset reaches: only bits [7:2] are decoded (20_memory.md R52, R54, R55). -/
def portSlot (offset : Nat) : PortSlot :=
  let slot := offset % 256 / 4
  if slot = 0 then .cmd
  else if slot = 1 then .status
  else if 16 ≤ slot ∧ slot < 32 then .xreg (Fin.ofNat 16 (slot - 16))
  else .reserved

/-- A host read of Xr: the word in it, or an unspecified word where it is not written since reset (10_state.md R23,
70_reset_and_hazards.md R267; log entry 3). -/
def State.hostReg (s : State) (r : Reg) : Word :=
  if s.isWritten r then s.reg r else Config.unspecifiedWord s.epoch r

/-- What a read returns: CMD and the reserved offsets read as zero (20_memory.md R52). -/
def State.readSlot (s : State) : PortSlot → Word
  | .cmd => 0
  | .status => s.statusRead
  | .xreg r => s.hostReg r
  | .reserved => 0

/-- A word written to CMD is one command: decoded and executed, or IllegalCommand (20_memory.md R56, 60_exceptions.md
R222). -/
def issue (w : Word) (s : State) : Result :=
  match decode w with
  | .ok i => Sys2Proof.Machine.exec i s
  | .error _ => .next (s.raise .illegalCommand)

/-- What a write does (20_memory.md R52). -/
def writeSlot (slot : PortSlot) (v : Word) (s : State) : Result :=
  match slot with
  | .cmd => issue v s
  | .status => .next (s.writeStatus v)
  | .xreg r => .next (s.writeReg r v)
  | .reserved => .next s

/-- One host-port access; a width other than 32 bits is refused (20_memory.md R53). -/
def performAccess (a : HostAccess) (s : State) : Result :=
  match a with
  | .read offset bits => if bits = 32 then .next (s.answer (s.readSlot (portSlot offset))) else .refused (.accessWidth bits)
  | .write offset bits v => if bits = 32 then writeSlot (portSlot offset) v s else .refused (.accessWidth bits)

/-- One host action. A reset performs none of the accesses it cut off (70_reset_and_hazards.md R261). -/
def perform (a : HostAction) (s : State) : Result :=
  match a with
  | .access acc => performAccess acc s
  | .reset _ => .next s.applyReset

/-- The host action that writes the command word `w` to CMD (20_memory.md R56). -/
def cmdWrite (w : Word) : HostAction := .access (.write 0x000 32 w)

end Sys2Proof.Machine
end

