-- ==== Sys2Proof/Machine/Step.lean ====
section
/-! DEFINITION. Sys2Proof/Machine/Step.lean: one step of the block: the host action at the front of the port, complete before
the next (20_memory.md R59, 70_reset_and_hazards.md R263). -/

namespace Sys2Proof.Machine

/-- One step. With no host action pending the block is idle, "and idleness has no architected effect" (60_exceptions.md
R236; log entry 14). -/
def step (s : State) : Host.Outcome State Fault Refusal :=
  match s.pending with
  | [] => .next s
  | a :: rest => perform a (s.accept rest)

/-- The table's word as the host's next action: a write of it to CMD, before everything pending (log entry 4). -/
def State.withFetchWord (s : State) (nbits w : Nat) : State :=
  { s with pending := cmdWrite (tableWord nbits w) :: s.pending }

end Sys2Proof.Machine
end

