-- ==== Sys2Proof/Machine/Assembler.lean ====
section
/-! DEFINITION. Sys2Proof/Machine/Assembler.lean: the assembler and disassembler of 30_encoding.md R86 to R88: pseudo-instructions,
program lines to host actions, and their text. What R86 does not fix of the text is in log entry 12. -/

namespace Sys2Proof.Machine

/-! ### From lines to host actions (R86, R87) -/

/-- `LI rd, V`: LDH of the high half, then LDL of the low half, "omitted when V[15:0] = 0" (R87). -/
def expandLi (rd : Reg) (v : Word) : List Instr :=
  if v.extractLsb' 0 16 = 0 then [.ldh rd (v.extractLsb' 16 16)]
  else [.ldh rd (v.extractLsb' 16 16), .ldl rd (v.extractLsb' 0 16)]

/-- The expansions of R87. -/
def expandPseudo : Pseudo → List Instr
  | .li rd v => expandLi rd v
  | .fromint rd n => [.ldh rd (BitVec.ofInt 16 n)]
  | .liang rd n => [.ldh rd 0, .ldl rd (BitVec.ofNat 16 n)]

/-- The host-port offset of Xr (20_memory.md R52). -/
def regOffset (r : Reg) : Nat := 0x040 + 4 * r.val

/-- The host actions of one line: "A command line with no host. prefix is a write of its encoding to CMD" (R86). -/
def lineActions : AsmLine → List HostAction
  | .command i => [cmdWrite (encode i)]
  | .pseudo p => (expandPseudo p).map fun i => cmdWrite (encode i)
  | .word w => [cmdWrite w]
  | .hostWr r v => [.access (.write (regOffset r) 32 v)]
  | .hostRd r => [.access (.read (regOffset r) 32)]
  | .hostSt => [.access (.read 0x004 32)]
  | .hostClr m => [.access (.write 0x004 32 m)]
  | .hostReset => [.reset []]

/-- The host actions of a program, in order. -/
def programActions (lines : List AsmLine) : List HostAction := lines.flatMap lineActions

/-! ### Reading text (R86) -/

/-- A space or a tab. -/
def isBlank (c : Char) : Bool := c == ' ' || c == '\t'

/-- The text with the blanks at both ends taken off. -/
def trimBlanks (t : List Char) : List Char := ((t.dropWhile isBlank).reverse.dropWhile isBlank).reverse

/-- The value of a decimal digit. -/
def decDigit (c : Char) : Option Nat := if '0' ≤ c ∧ c ≤ '9' then some (c.toNat - '0'.toNat) else none

/-- The value of a hexadecimal digit, in lower case. -/
def hexDigit (c : Char) : Option Nat :=
  if 'a' ≤ c ∧ c ≤ 'f' then some (c.toNat - 'a'.toNat + 10) else decDigit c

/-- Digits in a base, most significant first, after the value already read. -/
def readDigits (base : Nat) (digit : Char → Option Nat) : Nat → List Char → Option Nat
  | acc, [] => some acc
  | acc, c :: cs => (digit c).bind fun d => readDigits base digit (acc * base + d) cs

/-- A number in decimal, with a sign or without, or in hexadecimal after 0x. -/
def readNumber : List Char → Option Int
  | [] => none
  | ['-'] => none
  | ['0', 'x'] => none
  | '0' :: 'x' :: cs => (readDigits 16 hexDigit 0 cs).map Int.ofNat
  | '-' :: cs => (readDigits 10 decDigit 0 cs).map fun n => -(n : Int)
  | cs => (readDigits 10 decDigit 0 cs).map Int.ofNat

/-- A number between two bounds. -/
def readBetween (lo hi : Int) (t : List Char) : Option Int :=
  (readNumber t).filter fun n => decide (lo ≤ n ∧ n ≤ hi)

/-- imm16: -32768 to 65535, taken modulo 2^16 (R86). -/
def readImm (t : List Char) : Option Imm16 := (readBetween (-32768) 65535 t).map (BitVec.ofInt 16)

/-- A word: any 32-bit word, signed or unsigned. -/
def readWord (t : List Char) : Option Word := (readBetween (-2147483648) 4294967295 t).map (BitVec.ofInt 32)

/-- The register names of R86, in lower case. -/
def regNames : List String :=
  ["x0", "x1", "x2", "x3", "x4", "x5", "x6", "x7", "x8", "x9", "x10", "x11", "x12", "x13", "x14", "x15"]

/-- A register name. -/
def readReg (t : List Char) : Option Reg :=
  (List.finRange 16).find? fun r => (regNames.getD r.val "").toList == t

/-- The class S1 mnemonics (R80). -/
def namesS1 : List (String × (Reg → Reg → Instr)) := [
  ("ABS", .abs), ("FLOOR", .floor), ("CEIL", .ceil), ("ROUND", .round), ("AWRAP", .awrap), ("SIN", .sin),
  ("COS", .cos), ("TAN", .tan), ("ATAN", .atan), ("ASIN", .asin), ("ACOS", .acos), ("SQRT", .sqrt), ("MOV", .mov)]

/-- The class S2 mnemonics (R80). -/
def namesS2 : List (String × (Reg → Reg → Reg → Instr)) := [
  ("ADD", .add), ("SUB", .sub), ("MUL", .mul), ("DIV", .div), ("MOD", .mod), ("MIN", .min), ("MAX", .max),
  ("ATAN2", .atan2)]

/-- The class S3 mnemonics (R80). -/
def namesS3 : List (String × (Reg → Reg → Reg → Reg → Instr)) := [("CLAMP", .clamp), ("LERP", .lerp)]

/-- The class IMM mnemonics (R80). -/
def namesImm : List (String × (Reg → Imm16 → Instr)) := [("LDH", .ldh), ("LDL", .ldl)]

/-- The entry of a mnemonic, read in any case (R86). -/
def lookupName {α : Type} (names : List (String × α)) (t : List Char) : Option α :=
  (names.find? fun e => e.1.toList.map Char.toLower == t).map Prod.snd

/-- A command line: its mnemonic and its operands, in lower case (R86). -/
def readCommand (name : List Char) (operands : List (List Char)) : Option Instr :=
  match operands with
  | [d, a] =>
    match lookupName namesS1 name with
    | some mk => (readReg d).bind fun rd => (readReg a).map fun ra => mk rd ra
    | none => (lookupName namesImm name).bind fun mk => (readReg d).bind fun rd => (readImm a).map fun n => mk rd n
  | [d, a, b] => (lookupName namesS2 name).bind fun mk =>
      (readReg d).bind fun rd => (readReg a).bind fun ra => (readReg b).map fun rb => mk rd ra rb
  | [d, a, b, c] => (lookupName namesS3 name).bind fun mk =>
      (readReg d).bind fun rd => (readReg a).bind fun ra => (readReg b).bind fun rb => (readReg c).map fun rc =>
        mk rd ra rb rc
  | _ => none

/-- A line that is no command: a pseudo-instruction (R87), a raw word (R88) or a host action (R86). -/
def readOther (name : List Char) (operands : List (List Char)) : Option AsmLine :=
  match operands with
  | [] => if name = "host.st".toList then some .hostSt else if name = "host.reset".toList then some .hostReset else none
  | [a] =>
    if name = "host.rd".toList then (readReg a).map .hostRd
    else if name = "host.clr".toList then (readWord a).map .hostClr
    else if name = ".illegal".toList then (readWord a).map .word
    else none
  | [d, a] =>
    if name = "host.wr".toList then (readReg d).bind fun r => (readWord a).map fun v => .hostWr r v
    else if name = "li".toList then (readReg d).bind fun r => (readWord a).map fun v => .pseudo (.li r v)
    else if name = "fromint".toList then (readReg d).bind fun r => (readNumber a).map fun n => .pseudo (.fromint r n)
    else if name = "liang".toList then
      (readReg d).bind fun r => (readBetween 0 4095 a).map fun n => .pseudo (.liang r n.toNat)
    else none
  | _ => none

/-- The operands of a line: separated by commas; none where nothing stands after the mnemonic (R86). -/
def operandTexts (t : List Char) : List (List Char) :=
  if trimBlanks t = [] then [] else (t.splitOn ',').map trimBlanks

/-- One line of program text, to at most one line of the program: `;` starts a comment, and letters are read in any case
(R86). A line out of range is refused. -/
def readLine (text : List Char) : Option (List AsmLine) :=
  let code := trimBlanks ((text.takeWhile (· != ';')).map Char.toLower)
  if code = [] then some []
  else
    let name := code.takeWhile fun c => !isBlank c
    let operands := operandTexts (code.dropWhile fun c => !isBlank c)
    (((readCommand name operands).map AsmLine.command).or (readOther name operands)).bind fun l =>
      if l.wellFormed then some [l] else none

/-- A program's text, line by line, to the host actions it stands for (R86). -/
def assemble : List String → Option (List HostAction)
  | [] => some []
  | t :: ts => (readLine t.toList).bind fun ls => (assemble ts).map fun rest => programActions ls ++ rest

/-! ### Printing (R86, R88) -/

/-- One hexadecimal digit, in upper case. -/
def hexChar (n : Nat) : Char := if n < 10 then Char.ofNat (48 + n) else Char.ofNat (55 + n)

/-- The low `k` hexadecimal digits of `n`. -/
def hexChars : Nat → Nat → List Char
  | 0, _ => []
  | k + 1, n => hexChars k (n / 16) ++ [hexChar (n % 16)]

/-- 0x and the low `k` hexadecimal digits of `n`. -/
def hexText (k n : Nat) : String := "0x" ++ String.ofList (hexChars k n)

/-- The name of a register. -/
def regText (r : Reg) : String := regNames.getD r.val ""

/-- A mnemonic and its register operands. -/
def lineText (name : String) (rs : List Reg) : String := name ++ " " ++ ", ".intercalate (rs.map regText)

/-- A command as R86 writes it. -/
def instrText : Instr → String
  | .add rd a b => lineText "ADD" [rd, a, b]
  | .sub rd a b => lineText "SUB" [rd, a, b]
  | .mul rd a b => lineText "MUL" [rd, a, b]
  | .div rd a b => lineText "DIV" [rd, a, b]
  | .mod rd a b => lineText "MOD" [rd, a, b]
  | .abs rd a => lineText "ABS" [rd, a]
  | .min rd a b => lineText "MIN" [rd, a, b]
  | .max rd a b => lineText "MAX" [rd, a, b]
  | .clamp rd a lo hi => lineText "CLAMP" [rd, a, lo, hi]
  | .floor rd a => lineText "FLOOR" [rd, a]
  | .ceil rd a => lineText "CEIL" [rd, a]
  | .round rd a => lineText "ROUND" [rd, a]
  | .lerp rd a b t => lineText "LERP" [rd, a, b, t]
  | .awrap rd a => lineText "AWRAP" [rd, a]
  | .sin rd a => lineText "SIN" [rd, a]
  | .cos rd a => lineText "COS" [rd, a]
  | .tan rd a => lineText "TAN" [rd, a]
  | .atan2 rd y x => lineText "ATAN2" [rd, y, x]
  | .atan rd a => lineText "ATAN" [rd, a]
  | .asin rd a => lineText "ASIN" [rd, a]
  | .acos rd a => lineText "ACOS" [rd, a]
  | .sqrt rd a => lineText "SQRT" [rd, a]
  | .ldh rd imm => lineText "LDH" [rd] ++ ", " ++ hexText 4 imm.toNat
  | .ldl rd imm => lineText "LDL" [rd] ++ ", " ++ hexText 4 imm.toNat
  | .mov rd rs => lineText "MOV" [rd, rs]

/-- The disassembler: a word that R77 rejects prints as `.illegal 0xHHHHHHHH`, never as a mnemonic (R88). -/
def disassemble (w : Word) : String :=
  match decode w with
  | .ok i => instrText i
  | .error _ => ".illegal " ++ hexText 8 w.toNat

end Sys2Proof.Machine
end

