-- ==== Sys2Proof/Safety.lean ====
section
/-! DEFINITION. Sys2Proof/Safety.lean: what a run shows and when a claim may speak of it (70_reset_and_hazards.md R266,
60_exceptions.md R227, R237). -/

namespace Sys2Proof.Machine

/-- What is seen at the end of a run (70_reset_and_hazards.md R266). An X register not marked written shows no word: the
definition "does not say what an X register marked not written holds". -/
structure Observation where
  registers : List (Option Word)
  status : Word
  returned : List Word
  exceptions : List ExceptionEvent
  deriving DecidableEq, Repr

/-- The word of Xr where it is marked written. -/
def State.shownReg (s : State) (r : Reg) : Option Word := if s.isWritten r then some (s.reg r) else none

/-- The observation of the run that ended in `s`: a run in which UNINIT occurred has none (R266, R237). -/
def State.observation (s : State) : Except Fault Observation :=
  match s.uninits with
  | e :: _ => .error (.uninit e)
  | [] => .ok {
      registers := (List.finRange 16).map s.shownReg
      status := s.statusRead
      returned := s.returned.map HostReturn.word
      exceptions := s.exceptions }

/-- No command of the run read a register not written since reset (10_state.md R23). -/
def State.noUninit (s : State) : Bool := s.uninits.isEmpty

/-- "no exception was raised" in the run, whatever the host cleared since (60_exceptions.md R227). -/
def State.noException (s : State) : Bool := s.exceptions.isEmpty

/-- The run from reset of a list of host actions (70_reset_and_hazards.md R266): each is one step. -/
def runActions (actions : List HostAction) : Host.Outcome State Fault Refusal :=
  Host.Core.run Sys2Proof.core actions.length { State.reset with pending := actions }

end Sys2Proof.Machine
end

