-- ==== Sys2Proof/Certificates/Slice0/Obligations.lean ====
section
/-! DEFINITION. Sys2Proof/Certificates/Slice0/Obligations.lean: the statements for the provers, one `def Obligations.<Name> : Prop`
each, and the predicates they are written with. Nothing is proved here. -/

namespace Sys2Proof.Statements

open Sys2Proof.Machine

/-! ### Frames -/

/-- What no command touches: the port's queue, the position, the words returned to the host, the reset count. -/
structure SamePort (s t : State) : Prop where
  pending : t.pending = s.pending
  position : t.position = s.position
  returned : t.returned = s.returned
  epoch : t.epoch = s.epoch

/-- The record of unwritten reads after a command that reads `sources` (10_state.md R23; log entry 2): unchanged where all
are written, one event more for each that is not, nothing else new, and nothing lost. -/
structure ReadsNoted (s t : State) (sources : List Reg) : Prop where
  clean : (∀ r ∈ sources, s.isWritten r = true) → t.uninits = s.uninits
  noted : ∀ r ∈ sources, s.isWritten r = false → (⟨s.position, r⟩ : UninitEvent) ∈ t.uninits
  only : ∀ e ∈ t.uninits, e ∈ s.uninits ∨ ∃ r ∈ sources, s.isWritten r = false ∧ e = ⟨s.position, r⟩
  kept : List.IsPrefix s.uninits t.uninits

/-- `t` is `s` after a command that reads `sources` and writes `v` to `rd`: rd holds v and is marked written; every other
register and mark, STATUS, the exception record and the port are unchanged. -/
structure Wrote (s t : State) (sources : List Reg) (rd : Reg) (v : Word) : Prop where
  value : t.reg rd = v
  marked : t.isWritten rd = true
  otherRegs : ∀ r, r ≠ rd → t.reg r = s.reg r
  otherMarks : ∀ r, r ≠ rd → t.isWritten r = s.isWritten r
  status : t.status = s.status
  exceptions : t.exceptions = s.exceptions
  port : SamePort s t
  reads : ReadsNoted s t sources

/-- `t` is `s` after a command that reads `sources` and raises `c`: the flag of c is 1, every other bit of STATUS, every
register and mark and the port are unchanged, and the record gains the one event. -/
structure Trapped (s t : State) (sources : List Reg) (c : Cause) : Prop where
  regs : ∀ r, t.reg r = s.reg r
  marks : ∀ r, t.isWritten r = s.isWritten r
  status : ∀ k, t.status.getLsbD k = (s.status.getLsbD k || decide (k = c.code))
  exceptions : t.exceptions = s.exceptions ++ [⟨s.position, c⟩]
  port : SamePort s t
  reads : ReadsNoted s t sources

/-! ### The opcode map, field by field -/

/-- The 4-bit register field of a word whose least significant bit is bit `lo`, by division (30_encoding.md R71). -/
def fieldAt (w : Word) (lo : Nat) : Reg := Fin.ofNat 16 (w.toNat / 2 ^ lo)

/-- Every word with match `m` under the class S1 mask is this command. -/
def RowS1 (m : Word) (mk : Reg → Reg → Instr) : Prop :=
  ∀ w : Word, w &&& 0xFC03FFFF = m → decode w = .ok (mk (fieldAt w 22) (fieldAt w 18))

/-- Every word with match `m` under the class S2 mask is this command. -/
def RowS2 (m : Word) (mk : Reg → Reg → Reg → Instr) : Prop :=
  ∀ w : Word, w &&& 0xFC003FFF = m → decode w = .ok (mk (fieldAt w 22) (fieldAt w 18) (fieldAt w 14))

/-- Every word with match `m` under the class S3 mask is this command. -/
def RowS3 (m : Word) (mk : Reg → Reg → Reg → Reg → Instr) : Prop :=
  ∀ w : Word, w &&& 0xFC0003FF = m →
    decode w = .ok (mk (fieldAt w 22) (fieldAt w 18) (fieldAt w 14) (fieldAt w 10))

/-- Every word with match `m` under the class IMM mask is this command. -/
def RowImm (m : Word) (mk : Reg → Imm16 → Instr) : Prop :=
  ∀ w : Word, w &&& 0xFC3F0000 = m → decode w = .ok (mk (fieldAt w 22) (BitVec.ofNat 16 w.toNat))

/-- Every register of `rs` is written since reset: the states of which the spec's own rules for a command that reads `rs` speak
(10_state.md R23). What the command does in the other states is the model's choice (log entry 2), and stated apart: by
`CommandsAreFunctionsOfTheirSources` and `UnwrittenReadsLeaveNoObservation`. -/
def Ready (s : State) (rs : List Reg) : Prop := ∀ r ∈ rs, s.isWritten r = true

/-- A class S1 command, for every operand and in every state where its source is written, writes `f` of its source to rd. -/
def WritesS1 (mk : Reg → Reg → Instr) (f : Word → Word) : Prop :=
  ∀ (rd a : Reg) (s : State), Ready s [a] → ∃ t, exec (mk rd a) s = .next t ∧ Wrote s t [a] rd (f (s.reg a))

/-- A class S2 command, for every operand and in every state where its sources are written, writes `f` of its sources to rd. -/
def WritesS2 (mk : Reg → Reg → Reg → Instr) (f : Word → Word → Word) : Prop :=
  ∀ (rd a b : Reg) (s : State), Ready s [a, b] →
    ∃ t, exec (mk rd a b) s = .next t ∧ Wrote s t [a, b] rd (f (s.reg a) (s.reg b))

/-- A class S3 command, for every operand and in every state where its sources are written, writes `f` of its sources to rd. -/
def WritesS3 (mk : Reg → Reg → Reg → Reg → Instr) (f : Word → Word → Word → Word) : Prop :=
  ∀ (rd a b c : Reg) (s : State), Ready s [a, b, c] →
    ∃ t, exec (mk rd a b c) s = .next t ∧ Wrote s t [a, b, c] rd (f (s.reg a) (s.reg b) (s.reg c))

/-- The registers a command reads (30_encoding.md R75, R80; LDL reads its rd, 44_register_move.md R209). -/
def sources : Instr → List Reg
  | .add _ a b => [a, b]
  | .sub _ a b => [a, b]
  | .mul _ a b => [a, b]
  | .div _ a b => [a, b]
  | .mod _ a b => [a, b]
  | .abs _ a => [a]
  | .min _ a b => [a, b]
  | .max _ a b => [a, b]
  | .clamp _ a lo hi => [a, lo, hi]
  | .floor _ a => [a]
  | .ceil _ a => [a]
  | .round _ a => [a]
  | .lerp _ a b t => [a, b, t]
  | .awrap _ a => [a]
  | .sin _ a => [a]
  | .cos _ a => [a]
  | .tan _ a => [a]
  | .atan2 _ y x => [y, x]
  | .atan _ a => [a]
  | .asin _ a => [a]
  | .acos _ a => [a]
  | .sqrt _ a => [a]
  | .ldh _ _ => []
  | .ldl rd _ => [rd]
  | .mov _ rs => [rs]

/-- The register a command writes. -/
def dest : Instr → Reg
  | .add rd _ _ => rd
  | .sub rd _ _ => rd
  | .mul rd _ _ => rd
  | .div rd _ _ => rd
  | .mod rd _ _ => rd
  | .abs rd _ => rd
  | .min rd _ _ => rd
  | .max rd _ _ => rd
  | .clamp rd _ _ _ => rd
  | .floor rd _ => rd
  | .ceil rd _ => rd
  | .round rd _ => rd
  | .lerp rd _ _ _ => rd
  | .awrap rd _ => rd
  | .sin rd _ => rd
  | .cos rd _ => rd
  | .tan rd _ => rd
  | .atan2 rd _ _ => rd
  | .atan rd _ => rd
  | .asin rd _ => rd
  | .acos rd _ => rd
  | .sqrt rd _ => rd
  | .ldh rd _ => rd
  | .ldl rd _ => rd
  | .mov rd _ => rd

/-! ### The invariant -/

/-- What every reachable state has, and every step keeps: the reserved bits of STATUS are 0 (10_state.md R25), a flag that is
1 is explained by the record (60_exceptions.md R226, R227), the record names at most one exception for each command (R225),
in the order of the run, and no record speaks of a position not yet reached. -/
structure Consistent (s : State) : Prop where
  reserved : ∀ k, 2 ≤ k → s.status.getLsbD k = false
  explained : ∀ c, s.flagSet c = true → ∃ e ∈ s.exceptions, e.cause = c
  ordered : (s.exceptions.map ExceptionEvent.position).Pairwise (· < ·)
  past : ∀ e ∈ s.exceptions, e.position ≤ s.position
  pastUninits : ∀ e ∈ s.uninits, e.position ≤ s.position
  answersOrdered : (s.returned.map HostReturn.position).Pairwise (· < ·)
  pastAnswers : ∀ e ∈ s.returned, e.position ≤ s.position

/-- s32 on exact integers (00_scope.md R9): the number from -2^31 up to and without 2^31 that is `v` modulo 2^32. -/
def wrapped (v : Int) : Int := (v + 2 ^ 31) % 2 ^ 32 - 2 ^ 31

/-- The floor of the Q16.16 square root of a magnitude, by the library's integer square root. -/
def floorRoot (u : Nat) : Nat := Nat.sqrt (u * 65536)

/-- sqrtf in closed form (43_sqrt.md R200). -/
def closedRoot (a : Word) : Word :=
  if 0 ≤ a.toInt then BitVec.ofNat 32 (floorRoot a.toNat) else BitVec.ofInt 32 (-(floorRoot a.toInt.natAbs : Int))

end Sys2Proof.Statements

open Sys2Proof Sys2Proof.Machine Sys2Proof.Statements

/-! ### Encoding and the step -/

/-- Words printed by the spec decode to the commands it says they are (30_encoding.md R77; 44_register_move.md R210 to R212;
95_test_vectors.md section 2). -/
def Obligations.SpecWordsDecode : Prop :=
  decode 0x04C48000 = .ok (.add 3 1 2) ∧ decode 0x18C40000 = .ok (.abs 3 1) ∧
  decode 0x24C49000 = .ok (.clamp 3 1 2 4) ∧ decode 0x44840000 = .ok (.sin 2 1) ∧
  decode 0x60C48000 = .ok (.atan2 3 1 2) ∧ decode 0x80840000 = .ok (.sqrt 2 1) ∧
  decode 0xC0400004 = .ok (.ldh 1 4) ∧ decode 0xC4808000 = .ok (.ldl 2 0x8000) ∧ decode 0xC90C0000 = .ok (.mov 4 3)

/-- Every command, with every operand, decodes from its encoding. -/
def Obligations.DecodeInvertsEncode : Prop := ∀ i : Instr, decode (encode i) = .ok i

/-- Every word that decodes is the encoding of what it decodes to, so no two words are one command. -/
def Obligations.EncodeInvertsDecode : Prop := ∀ (w : Word) (i : Instr), decode w = .ok i → encode i = w

/-- 30_encoding.md R78: every word selects exactly one row of the opcode map and decodes to a command of that row, or
selects none and raises IllegalCommand; no two rows share an op. -/
def Obligations.EveryWordIsOneRowOrIllegal : Prop :=
  (∀ w : Word,
    (∃ r ∈ opcodeMap, r.selects w = true ∧ (∀ q ∈ opcodeMap, q.selects w = true → q = r) ∧
      ∃ i, decode w = .ok i ∧ i.mnemonic = r.mnemonic) ∨
    ((∀ r ∈ opcodeMap, r.selects w = false) ∧
      ∀ (s : State) (rest : List HostAction), s.pending = cmdWrite w :: rest →
        ∃ t, step s = .next t ∧ Trapped (s.accept rest) t [] .illegalCommand)) ∧
  (opcodeMap.map OpRow.op).Pairwise (· < ·)

/-- A step at a CMD write of a word that decodes to `i` is `exec i` at the state with that host action taken: the queue is
what was behind it (20_memory.md R56, 70_reset_and_hazards.md R263) and the position, the model's count of host actions (log entry
5, DESIGN CHOICE), is one more. -/
def Obligations.StepRunsTheDecodedCommand : Prop :=
  ∀ (s : State) (rest : List HostAction) (offset : Nat) (w : Word) (i : Instr),
    offset % 256 < 4 → s.pending = .access (.write offset 32 w) :: rest → decode w = .ok i →
      step s = exec i { s with pending := rest, position := s.position + 1 }

/-- A step takes one host action: with none pending nothing changes (log entry 14, DEDUCED); otherwise the queue is what was behind
the action (20_memory.md R59) and the position is one more. That the position counts every host action, a reset included, is the
model's choice: log entry 5. -/
def Obligations.StepTakesOneHostAction : Prop :=
  (∀ s : State, s.pending = [] → step s = .next s) ∧
  ∀ (s t : State) (a : HostAction) (rest : List HostAction),
    s.pending = a :: rest → step s = .next t → t.pending = rest ∧ t.position = s.position + 1

/-- 60_exceptions.md R222: a word at CMD whose op is unassigned, or reserved for exp, log and pow, or assigned with a 1 in a
bit its class requires to be zero, reads and writes no register; STATUS.ILL becomes 1, and nothing else changes. -/
def Obligations.IllegalWordsRaiseIllegalCommand : Prop :=
  ∀ (s : State) (rest : List HostAction) (offset : Nat) (w : Word),
    offset % 256 < 4 → s.pending = .access (.write offset 32 w) :: rest →
    (w.toNat / 2 ^ 26 ∈ [0x00, 0x0E, 0x0F, 0x14, 0x15, 0x16, 0x17, 0x1C, 0x1D, 0x1E, 0x1F] ∨
      0x33 ≤ w.toNat / 2 ^ 26 ∨
      (0x21 ≤ w.toNat / 2 ^ 26 ∧ w.toNat / 2 ^ 26 ≤ 0x2F) ∨
      ∃ r ∈ opcodeMap, w.toNat / 2 ^ 26 = r.op ∧ w &&& r.cls.mask ≠ r.matchWord) →
    ∃ t, step s = .next t ∧ Trapped { s with pending := rest, position := s.position + 1 } t [] .illegalCommand

/-! ### Scalar arithmetic -/

/-- 40_q16_arith.md R101. -/
def Obligations.AddWritesTheWrappedSum : Prop :=
  RowS2 0x04000000 .add ∧ WritesS2 .add fun a b => BitVec.ofInt 32 (a.toInt + b.toInt)

/-- 40_q16_arith.md R102. -/
def Obligations.SubWritesTheWrappedDifference : Prop :=
  RowS2 0x08000000 .sub ∧ WritesS2 .sub fun a b => BitVec.ofInt 32 (a.toInt - b.toInt)

/-- 40_q16_arith.md R103: the exact product, floored after the shift by 16, wrapped. -/
def Obligations.MulWritesTheFlooredProduct : Prop :=
  RowS2 0x0C000000 .mul ∧ WritesS2 .mul fun a b => BitVec.ofInt 32 (Int.floor ((a.toInt * b.toInt : ℚ) / 65536))

/-- 40_q16_arith.md R104: the quotient truncated toward zero and wrapped; DivideByZero where the divisor is 0; 1.0 where a
nonzero word is divided by itself. -/
def Obligations.DivWritesTheQuotientOrTraps : Prop :=
  RowS2 0x10000000 .div ∧
  ∀ (rd a b : Reg) (s : State), Ready s [a, b] →
    (s.reg b ≠ 0 → ∃ t, exec (.div rd a b) s = .next t ∧
      Wrote s t [a, b] rd (BitVec.ofInt 32 (Int.tdiv ((s.reg a).toInt * 65536) (s.reg b).toInt)) ∧
      (s.reg a = s.reg b → t.reg rd = 0x00010000)) ∧
    (s.reg b = 0 → ∃ t, exec (.div rd a b) s = .next t ∧ Trapped s t [a, b] .divideByZero)

/-- 40_q16_arith.md R105: the truncating remainder of the raw words, smaller in magnitude than the divisor; DivideByZero
where the divisor is 0. -/
def Obligations.ModWritesTheRemainderOrTraps : Prop :=
  RowS2 0x14000000 .mod ∧
  ∀ (rd a b : Reg) (s : State), Ready s [a, b] →
    (s.reg b ≠ 0 → ∃ t, exec (.mod rd a b) s = .next t ∧
      Wrote s t [a, b] rd (BitVec.ofInt 32 (Int.tmod (s.reg a).toInt (s.reg b).toInt)) ∧
      (t.reg rd).toInt.natAbs < (s.reg b).toInt.natAbs) ∧
    (s.reg b = 0 → ∃ t, exec (.mod rd a b) s = .next t ∧ Trapped s t [a, b] .divideByZero)

/-- 40_q16_arith.md R106: the magnitude, wrapped: 0x80000000 stays. -/
def Obligations.AbsWritesTheWrappedMagnitude : Prop :=
  RowS1 0x18000000 .abs ∧ WritesS1 .abs fun a => BitVec.ofNat 32 a.toInt.natAbs

/-- 40_q16_arith.md R107. -/
def Obligations.MinWritesTheSignedMinimum : Prop :=
  RowS2 0x1C000000 .min ∧ WritesS2 .min fun a b => BitVec.ofInt 32 (min a.toInt b.toInt)

/-- 40_q16_arith.md R108. -/
def Obligations.MaxWritesTheSignedMaximum : Prop :=
  RowS2 0x20000000 .max ∧ WritesS2 .max fun a b => BitVec.ofInt 32 (max a.toInt b.toInt)

/-- 40_q16_arith.md R109: lo below the range, hi above it, a inside it; the comparison with lo comes first, so for lo > hi
the result is lo for a < lo and hi for a >= lo. -/
def Obligations.ClampComparesLowFirst : Prop :=
  RowS3 0x24000000 .clamp ∧
  WritesS3 .clamp (fun a lo hi => if lo.toInt ≤ a.toInt then BitVec.ofInt 32 (min a.toInt hi.toInt) else lo)

/-- 40_q16_arith.md R110: the greatest multiple of 1.0 not above a. -/
def Obligations.FloorRoundsTowardMinusInfinity : Prop :=
  RowS1 0x28000000 .floor ∧ WritesS1 .floor fun a => BitVec.ofInt 32 (Int.floor ((a.toInt : ℚ) / 65536) * 65536)

/-- 40_q16_arith.md R111: the least multiple of 1.0 not below a, wrapped, which is s32((a + 0xFFFF) & 0xFFFF0000). -/
def Obligations.CeilRoundsTowardPlusInfinity : Prop :=
  RowS1 0x2C000000 .ceil ∧ WritesS1 .ceil (fun a => BitVec.ofInt 32 (Int.ceil ((a.toInt : ℚ) / 65536) * 65536)) ∧
  WritesS1 .ceil (fun a => (a + 0xFFFF) &&& 0xFFFF0000)

/-- 40_q16_arith.md R112: a plus one half, floored, wrapped: halves go toward plus infinity. -/
def Obligations.RoundSendsHalvesUp : Prop :=
  RowS1 0x30000000 .round ∧
  WritesS1 .round fun a => BitVec.ofInt 32 (Int.floor ((a.toInt : ℚ) / 65536 + 1 / 2) * 65536)

/-- 40_q16_arith.md R113: a + (b - a) · t with each step wrapped; with t = 1.0 the result is b. -/
def Obligations.LerpInterpolatesWithWrappedSteps : Prop :=
  RowS3 0x34000000 .lerp ∧
  WritesS3 .lerp (fun a b t =>
    BitVec.ofInt 32 (a.toInt + Int.floor (((BitVec.ofInt 32 (b.toInt - a.toInt)).toInt * t.toInt : ℚ) / 65536))) ∧
  ∀ (rd a b t : Reg) (s u : State), Ready s [a, b, t] → s.reg t = 0x00010000 → exec (.lerp rd a b t) s = .next u → u.reg rd = s.reg b

/-- 40_q16_arith.md R116. -/
def Obligations.ScalarIdentities : Prop :=
  ∀ a b : Word, xsub (xadd a b) b = a ∧ xmul a 0x00010000 = a ∧ xdiv a 0x00010000 = a ∧
    xdiv (xmul a 0x00010000) 0x00010000 = a

/-! ### Angles and the lookup tables -/

/-- 41_angle_trig.md R141. -/
def Obligations.AngleWrapIsTheLowTwelveBits : Prop :=
  (∀ a : Word, (awrap a).toNat = a.toNat % 4096 ∧ awrap a = (a.extractLsb' 0 12).setWidth 32 ∧ awrap (a + 4096) = awrap a ∧
    (awrap a).toNat < 4096) ∧
  awrap 0xFFFFFFFF = 4095 ∧ awrap 0x80000000 = 0

/-- 41_angle_trig.md R142. -/
def Obligations.AwrapWritesTheFoldedAngle : Prop :=
  RowS1 0x40000000 .awrap ∧ WritesS1 .awrap fun a => a &&& 0x00000FFF

/-- 41_angle_trig.md R143. -/
def Obligations.SinReadsTheSineTable : Prop :=
  RowS1 0x44000000 .sin ∧ WritesS1 .sin (fun a => sinLut (a.toNat % 4096)) ∧ sinLut 1024 = 0x00010000

/-- 41_angle_trig.md R144: the sine table a quarter turn later, also where the sum wraps. -/
def Obligations.CosReadsTheSineTableAQuarterTurnOn : Prop :=
  RowS1 0x48000000 .cos ∧ WritesS1 .cos fun a => sinLut ((a.toNat % 4096 + 1024) % 4096)

/-- 41_angle_trig.md R149: the tangent table at the angle modulo 2048; TAN_ASYM at 90 and at 270 degrees. -/
def Obligations.TanReadsTheTangentTable : Prop :=
  RowS1 0x4C000000 .tan ∧ WritesS1 .tan (fun a => tanLut (a.toNat % 2048)) ∧
  tanLut 1024 = 0x7FFFFFFF ∧ tanLut 1023 = 42722796 ∧ tanLut 1025 = BitVec.ofInt 32 (-42722796) ∧ tanLut 512 = 0x00010000

/-- 00_scope.md R8: a command that reads an angle depends on it only through its fold into [0, 4096), and every command that
returns an angle returns a value in [0, 4096). That it speaks of a source that is not written since reset too, where R23 and R237
say that no claim holds, is the model's choice: log entry 2 (DESIGN CHOICE, unsafe). -/
def Obligations.AnglesAreFoldedAndInRange : Prop :=
  (∀ mk ∈ [Instr.awrap, Instr.sin, Instr.cos, Instr.tan], ∀ (rd a : Reg) (s s' t t' : State),
    (s.reg a).toNat % 4096 = (s'.reg a).toNat % 4096 →
    exec (mk rd a) s = .next t → exec (mk rd a) s' = .next t' → t.reg rd = t'.reg rd) ∧
  (∀ mk ∈ [Instr.awrap, Instr.atan, Instr.asin, Instr.acos], ∀ (rd a : Reg) (s t : State),
    exec (mk rd a) s = .next t → (t.reg rd).toNat < 4096) ∧
  (∀ (rd y x : Reg) (s t : State), exec (.atan2 rd y x) s = .next t →
    (t.reg rd).toNat < 4096 ∨ Trapped s t [y, x] .divideByZero)

/-- 41_angle_trig.md section 3: each entry of SIN_LUT is 65536 · sin(2π i / 4096) rounded to the nearest integer, and no
entry is a tie. -/
def Obligations.SineTableIsTheRoundedSine : Prop :=
  ∀ i : Nat, i < 4096 → |((sinLut i).toInt : ℝ) - 65536 * Real.sin (2 * Real.pi * i / 4096)| < 1 / 2

/-- 41_angle_trig.md section 3 (R148): each entry of TAN_LUT but entry 1024 is 65536 · tan(π i / 2048) rounded to the nearest
integer, and none is a tie; entry 1024 is TAN_ASYM; the second half mirrors the first with its sign changed; no entry but 1024 is
larger in magnitude than 42722796. -/
def Obligations.TangentTableIsTheRoundedTangent : Prop :=
  (∀ i : Nat, i < 2048 → i ≠ 1024 → |((tanLut i).toInt : ℝ) - 65536 * Real.tan (Real.pi * i / 2048)| < 1 / 2) ∧
  tanLut 1024 = 0x7FFFFFFF ∧
  (∀ i : Nat, 1 ≤ i → i ≤ 1023 → (tanLut (2048 - i)).toInt = -(tanLut i).toInt) ∧
  (∀ i : Nat, i < 2048 → i ≠ 1024 → (tanLut i).toInt.natAbs ≤ 42722796)

/-- 41_angle_trig.md section 5 (R150), for every word as an angle: sin² + cos² is 1.0 less 0 to 2 raw units; tan is sin / cos within
317 raw units where |cos| is 2000 raw units or more; cos is sin a quarter turn later. -/
def Obligations.TablesAgreeWithEachOther : Prop :=
  ∀ a : Word,
    (-2 ≤ (xadd (xmul (sinWord a) (sinWord a)) (xmul (cosWord a) (cosWord a))).toInt - 65536 ∧
      (xadd (xmul (sinWord a) (sinWord a)) (xmul (cosWord a) (cosWord a))).toInt - 65536 ≤ 0) ∧
    (2000 ≤ (cosWord a).toInt.natAbs →
      ((xdiv (sinWord a) (cosWord a)).toInt - (tanWord a).toInt).natAbs ≤ 317) ∧
    cosWord a = sinWord (a + 1024)

/-! ### Square root -/

/-- 43_sqrt.md R200: on [0, 2^31] the 24-step loop is the closed form, the largest c below 2^24 with c·c <= u·65536, and sqrtf
is that root for a >= 0 and the negation of the magnitude's root for a < 0. -/
def Obligations.SqrtLoopIsTheFloorRoot : Prop :=
  (∀ u : Nat, u ≤ 2 ^ 31 → sqrtMagnitude u = floorRoot u ∧ sqrtMagnitude u < 2 ^ 24 ∧
    sqrtMagnitude u * sqrtMagnitude u ≤ u * 65536 ∧
    ∀ c : Nat, c < 2 ^ 24 → c * c ≤ u * 65536 → c ≤ sqrtMagnitude u) ∧
  ∀ a : Word, sqrtf a = closedRoot a

/-- 43_sqrt.md R201. -/
def Obligations.SqrtWritesTheSignedRoot : Prop := RowS1 0x80000000 .sqrt ∧ WritesS1 .sqrt closedRoot

/-- 43_sqrt.md R202: floor, tightness, range, monotony, sign mirroring and exact squares. -/
def Obligations.SqrtIsFloorTightMonotoneAndOdd : Prop :=
  (∀ a : Word, 0 ≤ a.toInt →
    (sqrtf a).toInt * (sqrtf a).toInt ≤ a.toInt * 65536 ∧
    a.toInt * 65536 < ((sqrtf a).toInt + 1) * ((sqrtf a).toInt + 1) ∧
    0 ≤ (sqrtf a).toInt ∧ (sqrtf a).toInt ≤ 11863283) ∧
  (∀ a b : Word, 0 ≤ a.toInt → a.toInt ≤ b.toInt → (sqrtf a).toInt ≤ (sqrtf b).toInt) ∧
  (∀ a : Word, 1 ≤ a.toInt → sqrtf (-a) = -(sqrtf a)) ∧
  (∀ n : Nat, n ≤ 181 → sqrtf (BitVec.ofNat 32 (n * n * 65536)) = BitVec.ofNat 32 (n * 65536))

/-! ### Inverse trigonometry -/

/-- 42_inverse_trig.md R171, written with the words' own arithmetic: the convention at (0, 0), the special branch, the ratio,
the reflection and the final wrap; the denominator is 0 only for y = x = 0x80000000; where no sum wraps the ratio is in
[-1.0, 1.0]. -/
def Obligations.Atan2FollowsTheApproximator : Prop :=
  ∀ y x : Word,
    let ay : Word := if y.toInt < 0 then -y else y
    let num : Word := if 0 ≤ x.toInt then x - ay else x + ay
    let den : Word := if 0 ≤ x.toInt then x + ay else ay - x
    let r : Word := BitVec.ofInt 32 (Int.tdiv (num.toInt * 65536) den.toInt)
    let ang : Word := (if 0 ≤ x.toInt then 512 else 1536) + atanPoly r
    (y = 0 ∧ x = 0 → atan2f y x = some 0) ∧
    (x = 0x00010000 → 0x7FFF0000 ≤ y.toInt.natAbs → atan2f y x = some (if 0 < y.toInt then 1024 else 3072)) ∧
    (¬(y = 0 ∧ x = 0) → ¬(x = 0x00010000 ∧ 0x7FFF0000 ≤ y.toInt.natAbs) →
      (den = 0 ↔ (y = 0x80000000 ∧ x = 0x80000000)) ∧
      (den = 0 → atan2f y x = none) ∧
      (den ≠ 0 → atan2f y x =
        some (BitVec.ofNat 32 ((if y.toInt < 0 ∧ ang ≠ 0 then 4096 - ang else ang).toNat % 4096))) ∧
      (y.toInt.natAbs + x.toInt.natAbs < 2 ^ 31 → -65536 ≤ r.toInt ∧ r.toInt ≤ 65536))

/-- 42_inverse_trig.md R172, for every word r: t is r cubed by two floored and wrapped products, p is 128 t - 640 r wrapped, and
the offset is p plus one half, wrapped, floored by the shift of 16: all in exact integers. The reference values follow, those of
95_test_vectors.md section 2.3 among them. -/
def Obligations.AtanPolyIsTheReferenceCubic : Prop :=
  (∀ r : Word,
    let t : Int := wrapped (wrapped (r.toInt * r.toInt / 65536) * r.toInt / 65536)
    let p : Int := wrapped (128 * t - 640 * r.toInt)
    (atanPoly r).toInt = wrapped (p + 0x8000) / 65536) ∧
  (atanPoly 0x00010000).toInt = -512 ∧ (atanPoly 0xFFFF0000).toInt = 512 ∧ (atanPoly 0).toInt = 0 ∧
  (atanPoly 0x00008000).toInt = -304 ∧ (atanPoly 0xFFFF8000).toInt = 304 ∧ (atanPoly 17560).toInt = -169

/-- 42_inverse_trig.md R174: the angle of (x, y); DivideByZero for y = x = 0x80000000 only; where no sum wraps the angle depends
only on the ratio: two points on one ray from the origin have one angle. -/
def Obligations.Atan2WritesTheAngleOrTraps : Prop :=
  RowS2 0x60000000 .atan2 ∧
  (∀ (y x y' x' : Word) (m n : Nat), 0 < m → 0 < n → m * y.toInt = n * y'.toInt → m * x.toInt = n * x'.toInt →
    y.toInt.natAbs + x.toInt.natAbs < 2 ^ 31 → y'.toInt.natAbs + x'.toInt.natAbs < 2 ^ 31 → atan2f y x = atan2f y' x') ∧
  ∀ (rd y x : Reg) (s : State), Ready s [y, x] →
    (¬(s.reg y = 0x80000000 ∧ s.reg x = 0x80000000) → ∃ t v, exec (.atan2 rd y x) s = .next t ∧
      atan2f (s.reg y) (s.reg x) = some v ∧ Wrote s t [y, x] rd v) ∧
    (s.reg y = 0x80000000 ∧ s.reg x = 0x80000000 → ∃ t, exec (.atan2 rd y x) s = .next t ∧
      Trapped s t [y, x] .divideByZero)

/-- 42_inverse_trig.md R175: atan2f(a, XINT1), which always has a result. -/
def Obligations.AtanWritesTheAngleAndNeverTraps : Prop :=
  RowS1 0x64000000 .atan ∧
  ∀ (rd a : Reg) (s : State), Ready s [a] → ∃ t v, exec (.atan rd a) s = .next t ∧
    atan2f (s.reg a) 0x00010000 = some v ∧ Wrote s t [a] rd v

/-- The pseudocode of 42_inverse_trig.md R176: the clamps, the band, and on the general path atan2f(a / s, XINT1) with s at
least 362; no operand raises an exception. (R176 also says that every negative operand of the general path gives an angle above
3072: its pseudocode gives 0 for -51 to -63, and the model follows the pseudocode: log entry 13.) -/
def Obligations.AsinWritesTheAngleAndNeverTraps : Prop :=
  RowS1 0x68000000 .asin ∧
  ∀ (rd a : Reg) (s : State), Ready s [a] → ∃ t v, exec (.asin rd a) s = .next t ∧ Wrote s t [a] rd v ∧
    let x := s.reg a
    let root := sqrtf (0x00010000 - xmul x x)
    (x.toInt ≤ -65536 → v = 3072) ∧ (65536 ≤ x.toInt → v = 1024) ∧ (x.toInt.natAbs < 51 → v = 0) ∧
    (51 ≤ x.toInt.natAbs → x.toInt.natAbs < 65536 →
      362 ≤ root.toInt ∧ atan2f (xdiv x root) 0x00010000 = some v)

/-- 42_inverse_trig.md R177: the clamps, the band, and on the general path atan2f(s / a, XINT1) with 180 degrees added for
a < 0; no operand raises an exception. -/
def Obligations.AcosWritesTheAngleAndNeverTraps : Prop :=
  RowS1 0x6C000000 .acos ∧
  ∀ (rd a : Reg) (s : State), Ready s [a] → ∃ t v, exec (.acos rd a) s = .next t ∧ Wrote s t [a] rd v ∧
    let x := s.reg a
    let root := sqrtf (0x00010000 - xmul x x)
    (x.toInt ≤ -65536 → v = 2048) ∧ (65536 ≤ x.toInt → v = 0) ∧ (x.toInt.natAbs < 51 → v = 1024) ∧
    (51 ≤ x.toInt.natAbs → x.toInt.natAbs < 65536 →
      ∃ u, atan2f (xdiv root x) 0x00010000 = some u ∧
        v = if x.toInt < 0 then BitVec.ofNat 32 ((u.toNat + 2048) % 4096) else u)

/-! ### Register moves -/

/-- 44_register_move.md R210: imm16 as a signed integer, in Q16.16; no register is read. -/
def Obligations.LdhWritesTheHighHalf : Prop :=
  RowImm 0xC0000000 .ldh ∧
  ∀ (rd : Reg) (imm : Imm16) (s : State), ∃ t, exec (.ldh rd imm) s = .next t ∧
    Wrote s t [] rd (BitVec.ofInt 32 (imm.toInt * 65536))

/-- 44_register_move.md R211: the low half is replaced, the high half kept; rd is read. -/
def Obligations.LdlReplacesTheLowHalf : Prop :=
  RowImm 0xC4000000 .ldl ∧
  ∀ (rd : Reg) (imm : Imm16) (s : State), Ready s [rd] → ∃ t, exec (.ldl rd imm) s = .next t ∧
    Wrote s t [rd] rd (BitVec.ofNat 32 ((s.reg rd).toNat / 65536 * 65536 + imm.toNat))

/-- 44_register_move.md R212. -/
def Obligations.MovCopiesTheRegister : Prop := RowS1 0xC8000000 .mov ∧ WritesS1 .mov fun a => a

/-- 30_encoding.md R87: the expansion of each pseudo-instruction, what it leaves in rd when it is run from any state, and that it
changes no other register and raises nothing. -/
def Obligations.PseudoInstructionsMeanWhatTheySay : Prop :=
  (∀ (rd : Reg) (v : Word), expandPseudo (.li rd v) =
    .ldh rd (BitVec.ofNat 16 (v.toNat / 65536)) ::
      if v.toNat % 65536 = 0 then [] else [.ldl rd (BitVec.ofNat 16 v.toNat)]) ∧
  (∀ (rd : Reg) (n : Int), expandPseudo (.fromint rd n) = [.ldh rd (BitVec.ofInt 16 n)]) ∧
  (∀ (rd : Reg) (n : Nat), expandPseudo (.liang rd n) = [.ldh rd 0, .ldl rd (BitVec.ofNat 16 n)]) ∧
  ∀ (p : Pseudo) (rd : Reg) (v : Word) (s : State),
    p = .li rd v ∨ (∃ n : Int, -32768 ≤ n ∧ n ≤ 32767 ∧ p = .fromint rd n ∧ v = BitVec.ofInt 32 (n * 65536)) ∨
      (∃ n : Nat, n ≤ 4095 ∧ p = .liang rd n ∧ v = BitVec.ofNat 32 n) →
    ∃ t, Host.Core.run Sys2Proof.core (lineActions (.pseudo p)).length
        { s with pending := lineActions (.pseudo p) } = .next t ∧
      t.reg rd = v ∧ (∀ r, r ≠ rd → t.reg r = s.reg r) ∧ t.status = s.status ∧ t.exceptions = s.exceptions ∧
      t.uninits = s.uninits ∧ t.pending = []

/-! ### The whole machine -/

/-- Every command answers a next state, and what it does is a function of its source registers as they stood before it, its
encoding and the ROMs: it writes rd and nothing else, or raises DivideByZero and writes nothing (10_state.md section 5,
00_scope.md R10, 60_exceptions.md R221). That it does so where a source is not written since reset too is the model's choice:
log entry 2. -/
def Obligations.CommandsAreFunctionsOfTheirSources : Prop :=
  ∀ i : Instr, ∃ f : List Word → Option Word, ∀ s : State, ∃ t, exec i s = .next t ∧
    match f ((sources i).map s.reg) with
    | some v => Wrote s t (sources i) (dest i) v
    | none => Trapped s t (sources i) .divideByZero ∧ (i.mnemonic = "DIV" ∨ i.mnemonic = "MOD" ∨ i.mnemonic = "ATAN2")

/-- A step changes Xr only by a command that decodes, has rd = r and raises nothing, by a host write to Xr, or by reset
(10_state.md section 1 and section 6). -/
def Obligations.RegistersChangeOnlyByWrites : Prop :=
  ∀ (s t : State) (r : Reg), step s = .next t → t.reg r ≠ s.reg r →
    (∃ offset w i rest, s.pending = .access (.write offset 32 w) :: rest ∧ offset % 256 < 4 ∧ decode w = .ok i ∧
      dest i = r ∧ t.exceptions = s.exceptions ∧ t.isWritten r = true) ∨
    (∃ offset rest, s.pending = .access (.write offset 32 (t.reg r)) :: rest ∧
      offset % 256 / 4 = 16 + r.val ∧ t.isWritten r = true) ∨
    (∃ lost rest, s.pending = .reset lost :: rest ∧ t.isWritten r = false)

/-- A flag that is 1 stays 1 until the host writes 1 to its bit of STATUS or resets the block, and so does fault_o while
either flag is 1 (60_exceptions.md section 2, section 3). -/
def Obligations.FlagsStickUntilClearedOrReset : Prop :=
  (∀ (s t : State) (c : Cause), step s = .next t → s.flagSet c = true → t.flagSet c = false →
    (∃ offset v rest, s.pending = .access (.write offset 32 v) :: rest ∧ offset % 256 / 4 = 1 ∧ v.getLsbD c.code = true) ∨
    (∃ lost rest, s.pending = .reset lost :: rest)) ∧
  (∀ (s t : State), step s = .next t → s.faultO = true → t.faultO = false →
    (∃ offset v rest, s.pending = .access (.write offset 32 v) :: rest ∧ offset % 256 / 4 = 1) ∨
    (∃ lost rest, s.pending = .reset lost :: rest)) ∧
  (∀ s : State, s.faultO = true ↔ ∃ c, s.flagSet c = true)

/-- One step adds at most one exception, whose flag it leaves at 1, and no host write clears the record (60_exceptions.md R225,
R227). That a reset leaves the record too, and that the positions count every host action, is the model's choice: log entry 5. -/
def Obligations.ExceptionRecordOnlyGrows : Prop :=
  ∀ s t : State, step s = .next t →
    t.exceptions = s.exceptions ∨
    ∃ c, t.exceptions = s.exceptions ++ [⟨s.position + 1, c⟩] ∧ t.position = s.position + 1 ∧ t.flagSet c = true ∧
      ∀ r, t.reg r = s.reg r

/-- Every step keeps the invariant. The positions it speaks of, and that a reset leaves the records, are the model's choice: log
entry 5. -/
def Obligations.StepKeepsConsistency : Prop := ∀ s t : State, Consistent s → step s = .next t → Consistent t

/-- The state after reset has the invariant. -/
def Obligations.ResetIsConsistent : Prop := Consistent State.reset

/-- From every state whose pending host actions are all 32 bits wide, one step for each performs them all: no fault, no
refusal, nothing left pending (70_reset_and_hazards.md section 5: "a finite list of host accesses always ends"). That the position and the records run on over a reset is the model's
choice, log entry 5; that a command which reads an unwritten register is no fault of its step is another, log entry 2. -/
def Obligations.EveryRunOfWordAccessesEnds : Prop :=
  ∀ s : State, (∀ a ∈ s.pending, a.wellFormed = true) →
    ∃ t, Host.Core.run Sys2Proof.core s.pending.length s = .next t ∧ t.pending = [] ∧
      t.position = s.position + s.pending.length ∧ List.IsPrefix s.exceptions t.exceptions ∧
      List.IsPrefix s.returned t.returned

/-- A run has an observation while none of its commands has read a register not written since reset, and none from such a read
on (10_state.md section 1, 70_reset_and_hazards.md section 6): the state after reset has one; a step keeps it, whatever the host
action, unless it issues a command with an unwritten source; such a command loses it; no step brings it back. That the step goes on
after such a read, and that the record of it survives a reset, is the model's choice: log entries 2 and 5. -/
def Obligations.UnwrittenReadsLeaveNoObservation : Prop :=
  (∀ (i : Instr) (s t : State), (∃ r ∈ sources i, s.isWritten r = false) → exec i s = .next t →
    ∃ e, t.observation = .error (.uninit e)) ∧
  (∀ (s t : State) (e : UninitEvent), s.observation = .error (.uninit e) → step s = .next t →
    t.observation = .error (.uninit e)) ∧
  (∀ (i : Instr) (s t : State) (o : Observation), s.observation = .ok o → (∀ r ∈ sources i, s.isWritten r = true) →
    exec i s = .next t → ∃ o', t.observation = .ok o') ∧
  (∀ (s t : State) (o : Observation), s.observation = .ok o → step s = .next t →
    (∀ offset w i rest, s.pending = .access (.write offset 32 w) :: rest → offset % 256 < 4 → decode w = .ok i →
      Ready s (sources i)) →
    ∃ o', t.observation = .ok o') ∧
  ∃ o, State.reset.observation = .ok o

/-! ### The host port and reset -/

/-- Reset, whatever it cuts off: STATUS is 0, fault_o is 0, no register is marked written, and the actions behind it are next
(70_reset_and_hazards.md section 1). That the records stay is the model's choice: log entry 5. The same holds of the state
after reset that a run starts from. -/
def Obligations.ResetClearsStatusAndMarks : Prop :=
  (∀ (s : State) (rest : List HostAction), ∃ t,
    (∀ lost, step { s with pending := .reset lost :: rest } = .next t) ∧
    t.status = 0 ∧ t.faultO = false ∧ (∀ r, t.isWritten r = false) ∧ t.pending = rest ∧
    t.exceptions = s.exceptions ∧ t.returned = s.returned ∧ t.uninits = s.uninits) ∧
  State.reset.status = 0 ∧ State.reset.faultO = false ∧ (∀ r, State.reset.isWritten r = false) ∧ State.reset.pending = []

/-- 10_state.md R26: a host write to STATUS clears each flag whose bit is 1 and leaves the other bits of STATUS, and sets
none; nothing else changes but the model's count of host actions (log entry 5). -/
def Obligations.StatusWriteClearsFlags : Prop :=
  ∀ (s : State) (rest : List HostAction) (offset : Nat) (v : Word),
    offset % 256 / 4 = 1 → s.pending = .access (.write offset 32 v) :: rest →
    ∃ t, step s = .next t ∧
      (∀ k, t.status.getLsbD k = if k < 2 ∧ v.getLsbD k = true then false else s.status.getLsbD k) ∧
      t = { s with status := t.status, pending := rest, position := s.position + 1 }

/-- What a 32-bit host read returns at every offset, and that it changes nothing in the block (20_memory.md section 2):
CMD and reserved offsets 0, STATUS its two flags, Xr its word. For a register not written since reset the word is free:
log entry 3. The record of every read with its position is the model's: log entries 5 and 7. -/
def Obligations.HostReadsFollowThePortMap : Prop :=
  ∀ (s : State) (rest : List HostAction) (offset : Nat), s.pending = .access (.read offset 32) :: rest →
    ∃ v : Word, step s = .next { s with
        pending := rest, position := s.position + 1, returned := s.returned ++ [⟨s.position + 1, v⟩] } ∧
      (offset % 256 / 4 = 1 → v.toNat = s.dz.toNat + 2 * s.ill.toNat) ∧
      (∀ r : Reg, offset % 256 / 4 = 16 + r.val → s.isWritten r = true → v = s.reg r) ∧
      (∀ r : Reg, offset % 256 / 4 = 16 + r.val → s.isWritten r = false → v = Config.unspecifiedWord s.epoch r) ∧
      (offset % 256 / 4 ≠ 1 → ¬(16 ≤ offset % 256 / 4 ∧ offset % 256 / 4 < 32) → v = 0)

/-- What a 32-bit host write does at the offsets of the registers and at the reserved offsets (20_memory.md section 2): Xr
holds the word and is marked written and nothing else changes but the model's count of host actions (log entry 5); a reserved
offset changes nothing but that count. -/
def Obligations.HostWritesFollowThePortMap : Prop :=
  ∀ (s : State) (rest : List HostAction) (offset : Nat) (v : Word), s.pending = .access (.write offset 32 v) :: rest →
    (∀ r : Reg, offset % 256 / 4 = 16 + r.val →
      ∃ t, step s = .next t ∧ Wrote { s with pending := rest, position := s.position + 1 } t [] r v) ∧
    (2 ≤ offset % 256 / 4 → ¬(16 ≤ offset % 256 / 4 ∧ offset % 256 / 4 < 32) →
      step s = .next { s with pending := rest, position := s.position + 1 })

/-- An access of another width than 32 bits is refused (20_memory.md R53), and one of 32 bits answers a next state. That it does so
for a CMD write whose command reads an unwritten register too is the model's choice: log entry 2. -/
def Obligations.OnlyWordAccessesAreTaken : Prop :=
  ∀ (s : State) (rest : List HostAction) (a : HostAccess) (bits : Nat),
    s.pending = .access a :: rest → (∃ offset, a = .read offset bits ∨ ∃ v, a = .write offset bits v) →
    (bits ≠ 32 → step s = .refused (.accessWidth bits)) ∧ (bits = 32 → ∃ t, step s = .next t)

/-- An access at offset o does what the access at o & 0xFC does, and none faults (20_memory.md R54); so bits above 7 make no
difference (R52, R55), nor does HOST_BASE, taken as 256 times an opaque page: log entry 8 (DEDUCED). That no access faults, a CMD
write whose command reads an unwritten register among them, is the model's choice: log entry 2. -/
def Obligations.OffsetBitsOneAndZeroAreNotDecoded : Prop :=
  (∀ (s : State) (offset : Nat) (v : Word),
    performAccess (.read offset 32) s = performAccess (.read (offset &&& 0xFC) 32) s ∧
    performAccess (.write offset 32 v) s = performAccess (.write (offset &&& 0xFC) 32 v) s ∧
    (∃ t, performAccess (.read offset 32) s = .next t) ∧ ∃ t, performAccess (.write offset 32 v) s = .next t) ∧
  ∀ offset : Nat, portSlot (Config.hostBase + offset) = portSlot offset ∧
    windowOffset (Config.hostBase + offset) = offset
end

