-- ==== Sys2Proof/Laws/Encoding.lean ====
section
/-! SUPPORT. Sys2Proof/Laws/Encoding.lean: what each field of an encoded word reads as, and that an encoded word passes the check
of its class (30_encoding.md R71 to R77). -/

namespace Sys2Proof

/-! ### The fields of format R -/

@[simp] theorem formatR_op (op : BitVec 6) (rd a b c : Reg) : opField (formatR op rd a b c) = op := by
  ext i hi
  simp only [formatR, opField, BitVec.getElem_extractLsb', BitVec.getLsbD_append]
  interval_cases i <;> simp [BitVec.getLsbD_eq_getElem]

theorem formatR_rd_bits (op : BitVec 6) (rd a b c : Reg) : (formatR op rd a b c).extractLsb' 22 4 = BitVec.ofFin (w := 4) rd := by
  ext i hi
  simp only [formatR, BitVec.getElem_extractLsb', BitVec.getLsbD_append]
  interval_cases i <;> simp [BitVec.getLsbD_eq_getElem]

@[simp] theorem formatR_rd (op : BitVec 6) (rd a b c : Reg) : rdField (formatR op rd a b c) = rd := by
  simp [rdField, formatR_rd_bits]

theorem formatR_rs1_bits (op : BitVec 6) (rd a b c : Reg) : (formatR op rd a b c).extractLsb' 18 4 = BitVec.ofFin (w := 4) a := by
  ext i hi
  simp only [formatR, BitVec.getElem_extractLsb', BitVec.getLsbD_append]
  interval_cases i <;> simp [BitVec.getLsbD_eq_getElem]

@[simp] theorem formatR_rs1 (op : BitVec 6) (rd a b c : Reg) : rs1Field (formatR op rd a b c) = a := by
  simp [rs1Field, formatR_rs1_bits]

theorem formatR_rs2_bits (op : BitVec 6) (rd a b c : Reg) : (formatR op rd a b c).extractLsb' 14 4 = BitVec.ofFin (w := 4) b := by
  ext i hi
  simp only [formatR, BitVec.getElem_extractLsb', BitVec.getLsbD_append]
  interval_cases i <;> simp [BitVec.getLsbD_eq_getElem]

@[simp] theorem formatR_rs2 (op : BitVec 6) (rd a b c : Reg) : rs2Field (formatR op rd a b c) = b := by
  simp [rs2Field, formatR_rs2_bits]

theorem formatR_rs3_bits (op : BitVec 6) (rd a b c : Reg) : (formatR op rd a b c).extractLsb' 10 4 = BitVec.ofFin (w := 4) c := by
  ext i hi
  simp only [formatR, BitVec.getElem_extractLsb', BitVec.getLsbD_append]
  interval_cases i <;> simp [BitVec.getLsbD_eq_getElem]

@[simp] theorem formatR_rs3 (op : BitVec 6) (rd a b c : Reg) : rs3Field (formatR op rd a b c) = c := by
  simp [rs3Field, formatR_rs3_bits]

/-! ### The fields of format I -/

@[simp] theorem formatI_op (op : BitVec 6) (rd : Reg) (imm : Imm16) : opField (formatI op rd imm) = op := by
  ext i hi
  simp only [formatI, opField, BitVec.getElem_extractLsb', BitVec.getLsbD_append]
  interval_cases i <;> simp [BitVec.getLsbD_eq_getElem]

theorem formatI_rd_bits (op : BitVec 6) (rd : Reg) (imm : Imm16) : (formatI op rd imm).extractLsb' 22 4 = BitVec.ofFin (w := 4) rd := by
  ext i hi
  simp only [formatI, BitVec.getElem_extractLsb', BitVec.getLsbD_append]
  interval_cases i <;> simp [BitVec.getLsbD_eq_getElem]

@[simp] theorem formatI_rd (op : BitVec 6) (rd : Reg) (imm : Imm16) : rdField (formatI op rd imm) = rd := by
  simp [rdField, formatI_rd_bits]

@[simp] theorem formatI_imm (op : BitVec 6) (rd : Reg) (imm : Imm16) : imm16Field (formatI op rd imm) = imm := by
  ext i hi
  simp only [formatI, imm16Field, BitVec.getElem_extractLsb', BitVec.getLsbD_append]
  interval_cases i <;> simp [BitVec.getLsbD_eq_getElem]

/-! ### The class masks -/

/-- An encoded word of class s3 has only its opcode under the mask of the class. -/
theorem formatR_mask_s3 (op : BitVec 6) (rd a b c : Reg) :
    formatR op rd a b c &&& OperandClass.s3.mask = op.setWidth 32 <<< 26 := by
  ext i hi
  simp only [OperandClass.mask, formatR, BitVec.getElem_and, BitVec.getElem_append, BitVec.getElem_shiftLeft,
    BitVec.getElem_setWidth]
  interval_cases i <;> simp [BitVec.getLsbD_eq_getElem]

/-- An encoded word of class s2 has only its opcode under the mask of the class. -/
theorem formatR_mask_s2 (op : BitVec 6) (rd a b : Reg) :
    formatR op rd a b 0 &&& OperandClass.s2.mask = op.setWidth 32 <<< 26 := by
  ext i hi
  simp only [OperandClass.mask, formatR, BitVec.getElem_and, BitVec.getElem_append, BitVec.getElem_shiftLeft,
    BitVec.getElem_setWidth]
  interval_cases i <;> simp [BitVec.getLsbD_eq_getElem]

/-- An encoded word of class s1 has only its opcode under the mask of the class. -/
theorem formatR_mask_s1 (op : BitVec 6) (rd a : Reg) :
    formatR op rd a 0 0 &&& OperandClass.s1.mask = op.setWidth 32 <<< 26 := by
  ext i hi
  simp only [OperandClass.mask, formatR, BitVec.getElem_and, BitVec.getElem_append, BitVec.getElem_shiftLeft,
    BitVec.getElem_setWidth]
  interval_cases i <;> simp [BitVec.getLsbD_eq_getElem]

/-- An encoded word of class imm has only its opcode under the mask of the class. -/
theorem formatI_mask_imm (op : BitVec 6) (rd : Reg) (imm : Imm16) :
    formatI op rd imm &&& OperandClass.imm.mask = op.setWidth 32 <<< 26 := by
  ext i hi
  simp only [OperandClass.mask, formatI, BitVec.getElem_and, BitVec.getElem_append, BitVec.getElem_shiftLeft,
    BitVec.getElem_setWidth]
  interval_cases i <;> simp [BitVec.getLsbD_eq_getElem]

/-! ### The table's words -/

/-- A 32-bit word of the opcode table is itself. -/
theorem tableWord_toNat (w : Word) : tableWord 32 w.toNat = w := by
  simp [tableWord, Nat.mod_eq_of_lt w.isLt]

end Sys2Proof
end

