-- ==== Sys2Proof/Laws/State.lean ====
section
/-! SUPPORT. Sys2Proof/Laws/State.lean: one lemma per field per update of the state, so that no proof unfolds an update, and the
registers and marks as they are read after each update. -/

namespace Sys2Proof.Machine

/-! ### writeReg -/

@[simp] theorem State.writeReg_regs (s : State) (r : Reg) (v : Word) : (s.writeReg r v).regs = s.regs.set r v := rfl
@[simp] theorem State.writeReg_written (s : State) (r : Reg) (v : Word) : (s.writeReg r v).written = s.written.set r true := rfl
@[simp] theorem State.writeReg_status (s : State) (r : Reg) (v : Word) : (s.writeReg r v).status = s.status := rfl
@[simp] theorem State.writeReg_pending (s : State) (r : Reg) (v : Word) : (s.writeReg r v).pending = s.pending := rfl
@[simp] theorem State.writeReg_position (s : State) (r : Reg) (v : Word) : (s.writeReg r v).position = s.position := rfl
@[simp] theorem State.writeReg_exceptions (s : State) (r : Reg) (v : Word) : (s.writeReg r v).exceptions = s.exceptions := rfl
@[simp] theorem State.writeReg_uninits (s : State) (r : Reg) (v : Word) : (s.writeReg r v).uninits = s.uninits := rfl
@[simp] theorem State.writeReg_returned (s : State) (r : Reg) (v : Word) : (s.writeReg r v).returned = s.returned := rfl
@[simp] theorem State.writeReg_epoch (s : State) (r : Reg) (v : Word) : (s.writeReg r v).epoch = s.epoch := rfl

/-! ### noteReads -/

@[simp] theorem State.noteReads_regs (s : State) (rs : List Reg) : (s.noteReads rs).regs = s.regs := rfl
@[simp] theorem State.noteReads_written (s : State) (rs : List Reg) : (s.noteReads rs).written = s.written := rfl
@[simp] theorem State.noteReads_status (s : State) (rs : List Reg) : (s.noteReads rs).status = s.status := rfl
@[simp] theorem State.noteReads_pending (s : State) (rs : List Reg) : (s.noteReads rs).pending = s.pending := rfl
@[simp] theorem State.noteReads_position (s : State) (rs : List Reg) : (s.noteReads rs).position = s.position := rfl
@[simp] theorem State.noteReads_exceptions (s : State) (rs : List Reg) : (s.noteReads rs).exceptions = s.exceptions := rfl
@[simp] theorem State.noteReads_uninits (s : State) (rs : List Reg) : (s.noteReads rs).uninits = s.uninits ++ s.uninitEvents rs := rfl
@[simp] theorem State.noteReads_returned (s : State) (rs : List Reg) : (s.noteReads rs).returned = s.returned := rfl
@[simp] theorem State.noteReads_epoch (s : State) (rs : List Reg) : (s.noteReads rs).epoch = s.epoch := rfl

/-! ### raise -/

@[simp] theorem State.raise_regs (s : State) (c : Cause) : (s.raise c).regs = s.regs := rfl
@[simp] theorem State.raise_written (s : State) (c : Cause) : (s.raise c).written = s.written := rfl
@[simp] theorem State.raise_status (s : State) (c : Cause) : (s.raise c).status = setFlag c s.status := rfl
@[simp] theorem State.raise_pending (s : State) (c : Cause) : (s.raise c).pending = s.pending := rfl
@[simp] theorem State.raise_position (s : State) (c : Cause) : (s.raise c).position = s.position := rfl
@[simp] theorem State.raise_exceptions (s : State) (c : Cause) : (s.raise c).exceptions = s.exceptions ++ [⟨s.position, c⟩] := rfl
@[simp] theorem State.raise_uninits (s : State) (c : Cause) : (s.raise c).uninits = s.uninits := rfl
@[simp] theorem State.raise_returned (s : State) (c : Cause) : (s.raise c).returned = s.returned := rfl
@[simp] theorem State.raise_epoch (s : State) (c : Cause) : (s.raise c).epoch = s.epoch := rfl

/-! ### writeStatus -/

@[simp] theorem State.writeStatus_regs (s : State) (v : Word) : (s.writeStatus v).regs = s.regs := rfl
@[simp] theorem State.writeStatus_written (s : State) (v : Word) : (s.writeStatus v).written = s.written := rfl
@[simp] theorem State.writeStatus_status (s : State) (v : Word) : (s.writeStatus v).status = clearFlags v s.status := rfl
@[simp] theorem State.writeStatus_pending (s : State) (v : Word) : (s.writeStatus v).pending = s.pending := rfl
@[simp] theorem State.writeStatus_position (s : State) (v : Word) : (s.writeStatus v).position = s.position := rfl
@[simp] theorem State.writeStatus_exceptions (s : State) (v : Word) : (s.writeStatus v).exceptions = s.exceptions := rfl
@[simp] theorem State.writeStatus_uninits (s : State) (v : Word) : (s.writeStatus v).uninits = s.uninits := rfl
@[simp] theorem State.writeStatus_returned (s : State) (v : Word) : (s.writeStatus v).returned = s.returned := rfl
@[simp] theorem State.writeStatus_epoch (s : State) (v : Word) : (s.writeStatus v).epoch = s.epoch := rfl

/-! ### accept -/

@[simp] theorem State.accept_regs (s : State) (rest : List HostAction) : (s.accept rest).regs = s.regs := rfl
@[simp] theorem State.accept_written (s : State) (rest : List HostAction) : (s.accept rest).written = s.written := rfl
@[simp] theorem State.accept_status (s : State) (rest : List HostAction) : (s.accept rest).status = s.status := rfl
@[simp] theorem State.accept_pending (s : State) (rest : List HostAction) : (s.accept rest).pending = rest := rfl
@[simp] theorem State.accept_position (s : State) (rest : List HostAction) : (s.accept rest).position = s.position + 1 := rfl
@[simp] theorem State.accept_exceptions (s : State) (rest : List HostAction) : (s.accept rest).exceptions = s.exceptions := rfl
@[simp] theorem State.accept_uninits (s : State) (rest : List HostAction) : (s.accept rest).uninits = s.uninits := rfl
@[simp] theorem State.accept_returned (s : State) (rest : List HostAction) : (s.accept rest).returned = s.returned := rfl
@[simp] theorem State.accept_epoch (s : State) (rest : List HostAction) : (s.accept rest).epoch = s.epoch := rfl

/-! ### answer -/

@[simp] theorem State.answer_regs (s : State) (v : Word) : (s.answer v).regs = s.regs := rfl
@[simp] theorem State.answer_written (s : State) (v : Word) : (s.answer v).written = s.written := rfl
@[simp] theorem State.answer_status (s : State) (v : Word) : (s.answer v).status = s.status := rfl
@[simp] theorem State.answer_pending (s : State) (v : Word) : (s.answer v).pending = s.pending := rfl
@[simp] theorem State.answer_position (s : State) (v : Word) : (s.answer v).position = s.position := rfl
@[simp] theorem State.answer_exceptions (s : State) (v : Word) : (s.answer v).exceptions = s.exceptions := rfl
@[simp] theorem State.answer_uninits (s : State) (v : Word) : (s.answer v).uninits = s.uninits := rfl
@[simp] theorem State.answer_returned (s : State) (v : Word) : (s.answer v).returned = s.returned ++ [⟨s.position, v⟩] := rfl
@[simp] theorem State.answer_epoch (s : State) (v : Word) : (s.answer v).epoch = s.epoch := rfl

/-! ### applyReset -/

@[simp] theorem State.applyReset_regs (s : State) : s.applyReset.regs = Vector.replicate 16 Config.resetWord := rfl
@[simp] theorem State.applyReset_written (s : State) : s.applyReset.written = Vector.replicate 16 false := rfl
@[simp] theorem State.applyReset_status (s : State) : s.applyReset.status = 0 := rfl
@[simp] theorem State.applyReset_pending (s : State) : s.applyReset.pending = s.pending := rfl
@[simp] theorem State.applyReset_position (s : State) : s.applyReset.position = s.position := rfl
@[simp] theorem State.applyReset_exceptions (s : State) : s.applyReset.exceptions = s.exceptions := rfl
@[simp] theorem State.applyReset_uninits (s : State) : s.applyReset.uninits = s.uninits := rfl
@[simp] theorem State.applyReset_returned (s : State) : s.applyReset.returned = s.returned := rfl
@[simp] theorem State.applyReset_epoch (s : State) : s.applyReset.epoch = s.epoch + 1 := rfl

/-! ### Registers and marks after an update -/

@[simp] theorem State.reg_noteReads (s : State) (rs : List Reg) (q : Reg) : (s.noteReads rs).reg q = s.reg q := rfl
@[simp] theorem State.reg_raise (s : State) (c : Cause) (q : Reg) : (s.raise c).reg q = s.reg q := rfl
@[simp] theorem State.reg_writeStatus (s : State) (v : Word) (q : Reg) : (s.writeStatus v).reg q = s.reg q := rfl
@[simp] theorem State.reg_accept (s : State) (rest : List HostAction) (q : Reg) : (s.accept rest).reg q = s.reg q := rfl
@[simp] theorem State.reg_answer (s : State) (v : Word) (q : Reg) : (s.answer v).reg q = s.reg q := rfl
@[simp] theorem State.isWritten_noteReads (s : State) (rs : List Reg) (q : Reg) :
    (s.noteReads rs).isWritten q = s.isWritten q := rfl
@[simp] theorem State.isWritten_raise (s : State) (c : Cause) (q : Reg) : (s.raise c).isWritten q = s.isWritten q := rfl
@[simp] theorem State.isWritten_writeStatus (s : State) (v : Word) (q : Reg) :
    (s.writeStatus v).isWritten q = s.isWritten q := rfl
@[simp] theorem State.isWritten_accept (s : State) (rest : List HostAction) (q : Reg) :
    (s.accept rest).isWritten q = s.isWritten q := rfl
@[simp] theorem State.isWritten_answer (s : State) (v : Word) (q : Reg) : (s.answer v).isWritten q = s.isWritten q := rfl

/-- A register write is read back at its own register and at no other. -/
theorem State.reg_writeReg (s : State) (r q : Reg) (v : Word) : (s.writeReg r v).reg q = if q = r then v else s.reg q := by
  simp [State.reg, State.writeReg, Vector.get_eq_getElem, Vector.getElem_set, Fin.ext_iff, eq_comm]

/-- A register write marks its own register and no other. -/
theorem State.isWritten_writeReg (s : State) (r q : Reg) (v : Word) :
    (s.writeReg r v).isWritten q = if q = r then true else s.isWritten q := by
  simp [State.isWritten, State.writeReg, Vector.get_eq_getElem, Vector.getElem_set, Fin.ext_iff, eq_comm]

@[simp] theorem State.reg_writeReg_self (s : State) (r : Reg) (v : Word) : (s.writeReg r v).reg r = v := by
  simp [State.reg_writeReg]

@[simp] theorem State.isWritten_writeReg_self (s : State) (r : Reg) (v : Word) : (s.writeReg r v).isWritten r = true := by
  simp [State.isWritten_writeReg]

theorem State.reg_writeReg_ne (s : State) {r q : Reg} (v : Word) (h : q ≠ r) : (s.writeReg r v).reg q = s.reg q := by
  simp [State.reg_writeReg, h]

theorem State.isWritten_writeReg_ne (s : State) {r q : Reg} (v : Word) (h : q ≠ r) :
    (s.writeReg r v).isWritten q = s.isWritten q := by
  simp [State.isWritten_writeReg, h]

/-- After reset no register is marked written. -/
@[simp] theorem State.isWritten_applyReset (s : State) (q : Reg) : s.applyReset.isWritten q = false := by
  simp [State.isWritten, Vector.get_eq_getElem]

/-- After reset every register holds the word log entry 1 names. -/
theorem State.reg_applyReset (s : State) (q : Reg) : s.applyReset.reg q = Config.resetWord := by
  simp [State.reg, Vector.get_eq_getElem]

/-! ### The end of a command -/

@[simp] theorem State.finish_some (s : State) (rd : Reg) (v : Word) : s.finish rd (some v) = s.writeReg rd v := rfl
@[simp] theorem State.finish_none (s : State) (rd : Reg) : s.finish rd none = s.raise .divideByZero := rfl
@[simp] theorem State.finish_pending (s : State) (rd : Reg) (v : Option Word) : (s.finish rd v).pending = s.pending := by
  cases v <;> rfl
@[simp] theorem State.finish_position (s : State) (rd : Reg) (v : Option Word) : (s.finish rd v).position = s.position := by
  cases v <;> rfl
@[simp] theorem State.finish_uninits (s : State) (rd : Reg) (v : Option Word) : (s.finish rd v).uninits = s.uninits := by
  cases v <;> rfl
@[simp] theorem State.finish_returned (s : State) (rd : Reg) (v : Option Word) : (s.finish rd v).returned = s.returned := by
  cases v <;> rfl
@[simp] theorem State.finish_epoch (s : State) (rd : Reg) (v : Option Word) : (s.finish rd v).epoch = s.epoch := by
  cases v <;> rfl

/-! ### The records of unwritten reads -/

/-- A command whose sources are all written records nothing. -/
theorem State.uninitEvents_of_written (s : State) (rs : List Reg) (h : ∀ r ∈ rs, s.isWritten r = true) :
    s.uninitEvents rs = [] := by
  simp only [State.uninitEvents, List.map_eq_nil_iff, List.filter_eq_nil_iff]
  intro r hr
  simp [h r hr]

/-- A command that reads no register notes nothing. -/
@[simp] theorem State.noteReads_nil (s : State) : s.noteReads [] = s := by
  simp [State.noteReads, State.uninitEvents]

/-- The events of a command are its own reads of unwritten registers. -/
theorem State.mem_uninitEvents (s : State) (rs : List Reg) (e : UninitEvent) :
    e ∈ s.uninitEvents rs ↔ ∃ r ∈ rs, s.isWritten r = false ∧ e = ⟨s.position, r⟩ := by
  simp only [State.uninitEvents, List.mem_map, List.mem_filter, Bool.not_eq_true', and_assoc]
  constructor
  · rintro ⟨r, hr, hw, rfl⟩; exact ⟨r, hr, hw, rfl⟩
  · rintro ⟨r, hr, hw, rfl⟩; exact ⟨r, hr, hw, rfl⟩

/-! ### STATUS -/

/-- Setting a flag sets its bit and leaves the others. -/
theorem setFlag_getLsbD (c : Cause) (w : Word) (k : Nat) :
    (setFlag c w).getLsbD k = (w.getLsbD k || decide (k = c.code)) := by
  cases c
  · rcases Nat.lt_or_ge k 32 with h | h
    · interval_cases k <;> simp [setFlag, Cause.flag, Cause.code]
    · have : k ≠ 0 := by omega
      simp [setFlag, Cause.flag, Cause.code, this, BitVec.getLsbD_of_ge _ _ h]
  · rcases Nat.lt_or_ge k 32 with h | h
    · interval_cases k <;> simp [setFlag, Cause.flag, Cause.code]
    · have : k ≠ 1 := by omega
      simp [setFlag, Cause.flag, Cause.code, this, BitVec.getLsbD_of_ge _ _ h]

/-- Clearing flags clears bit k of STATUS where k is DZ or ILL and the written word has it, and leaves the others. -/
theorem clearFlags_getLsbD (v w : Word) (k : Nat) :
    (clearFlags v w).getLsbD k = (w.getLsbD k && !(decide (k < 2) && v.getLsbD k)) := by
  rcases Nat.lt_or_ge k 32 with h | h
  · interval_cases k <;> simp [clearFlags, statusMask]
  · simp [BitVec.getLsbD_of_ge _ _ h]

end Sys2Proof.Machine
end

