-- ==== Sys2Proof/Laws/Exec.lean ====
section
/-! SUPPORT. Sys2Proof/Laws/Exec.lean: what a command can do, said once. -/

namespace Sys2Proof.Machine

/-- Every command answers a next state: it notes its sources as read, then writes one register or raises DivideByZero. -/
theorem exec_cases (i : Instr) (s : State) :
    ∃ (sources : List Reg) (rd : Reg) (result : Option Word),
      exec i s = .next ((s.noteReads sources).finish rd result) := by
  cases i
  case ldh rd imm => exact ⟨[], rd, some (ldhWord imm), by simp [exec, execLdh, runImm, State.noteReads, State.uninitEvents]⟩
  all_goals exact ⟨_, _, _, rfl⟩

/-- A command answers a next state and nothing else. -/
theorem exec_next (i : Instr) (s : State) : ∃ t, exec i s = .next t := by
  obtain ⟨_, _, _, h⟩ := exec_cases i s
  exact ⟨_, h⟩

/-- The end of a command: either one register is written, or DivideByZero is raised and no register is written. -/
theorem finish_cases (s : State) (rd : Reg) (result : Option Word) :
    (∃ v, result = some v ∧ s.finish rd result = s.writeReg rd v) ∨
    (result = none ∧ s.finish rd result = s.raise .divideByZero) := by
  cases result with
  | some v => exact .inl ⟨v, rfl, rfl⟩
  | none => exact .inr ⟨rfl, rfl⟩

end Sys2Proof.Machine
end

