-- ==== Sys2Proof/Laws/Fixed.lean ====
section
/-! SUPPORT. Sys2Proof/Laws/Fixed.lean: the scalar primitives as bit-vector arithmetic, one lemma each. -/

namespace Sys2Proof.Machine

/-- xadd is the wrapping sum of the words. -/
theorem xadd_eq_add (a b : Word) : xadd a b = a + b := by
  simp [xadd, s32, BitVec.ofInt_add]

/-- xsub is the wrapping difference of the words. -/
theorem xsub_eq_sub (a b : Word) : xsub a b = a - b := by
  apply BitVec.eq_of_toInt_eq
  simp [xsub, s32, BitVec.toInt_sub]

/-- The floor of a word clears its 16 fraction bits. -/
theorem xfloor_toNat (a : Word) : (xfloor a).toNat = a.toNat / 65536 * 65536 := by
  have h : a &&& 0xFFFF0000 = a.extractLsb' 16 16 ++ 0#16 := by
    ext i hi
    simp only [BitVec.getElem_and, BitVec.getElem_append, BitVec.getElem_extractLsb']
    interval_cases i <;> simp [BitVec.getLsbD_eq_getElem]
  have := a.isLt
  rw [xfloor, h, BitVec.toNat_append]
  simp [Nat.shiftLeft_eq, Nat.shiftRight_eq_div_pow]
  omega

/-- The wrapping magnitude, read without sign, is the mathematical one. -/
theorem xabs_toNat (a : Word) : (xabs a).toNat = absMath a := by
  have h := BitVec.toInt_eq_toNat_cond a
  have := a.isLt
  unfold xabs absMath
  split
  · simp only [s32, BitVec.toNat_ofInt]; split at h <;> omega
  · split at h <;> omega

/-- trem is the library's truncating remainder. -/
theorem trem_eq_tmod (n d : Int) : trem n d = Int.tmod n d := by
  rw [trem, tdiv, Int.tmod_def]

/-- The angle wrap keeps the low 12 bits. -/
theorem awrap_toNat (a : Word) : (awrap a).toNat = a.toNat % 4096 := by
  simp only [awrap, BitVec.toNat_ofNat]
  omega

/-- The angle wrap lands in [0, 4096). -/
theorem awrap_lt (a : Word) : (awrap a).toNat < 4096 := by
  rw [awrap_toNat]
  omega

/-- The guarded quotient has no result exactly where the divisor is 0. -/
theorem xdivGuarded_eq_none_iff (a b : Word) : xdivGuarded a b = none ↔ b = 0 := by
  unfold xdivGuarded
  split <;> simp_all

/-- Where the divisor is not 0 the guarded quotient is xdiv. -/
theorem xdivGuarded_of_ne (a : Word) {b : Word} (h : b ≠ 0) : xdivGuarded a b = some (xdiv a b) := by
  rw [xdivGuarded, if_neg h]

end Sys2Proof.Machine
end

