-- ==== Sys2Proof/Laws/PerInstr.lean ====
section
/-! SUPPORT. Sys2Proof/Laws/PerInstr.lean: facts stated of every instruction, one lemma per constructor. -/

namespace Sys2Proof.Laws

/-- The encoded word of a command is selected by the row of the opcode map (30_encoding.md R80) that has its mnemonic. -/
def EncodeRow.Statement (i : Instr) : Prop :=
  ∃ r ∈ opcodeMap, r.mnemonic = i.mnemonic ∧ r.selects (encode i) = true

/-- A row selects a word that has the row's match under the row's mask. -/
theorem selects_of_mask {r : OpRow} {w : Word} {op : BitVec 6} (h : w &&& r.cls.mask = op.setWidth 32 <<< 26)
    (hm : r.matchWord = op.setWidth 32 <<< 26) : r.selects w = true := by
  simp [OpRow.selects, h, hm]

namespace EncodeRow

theorem add (rd a b : Reg) : Statement (.add rd a b) :=
  ⟨⟨"ADD", 0x01, .s2⟩, by decide, rfl, selects_of_mask (op := 0x01) (formatR_mask_s2 ..) (by decide)⟩

theorem sub (rd a b : Reg) : Statement (.sub rd a b) :=
  ⟨⟨"SUB", 0x02, .s2⟩, by decide, rfl, selects_of_mask (op := 0x02) (formatR_mask_s2 ..) (by decide)⟩

theorem mul (rd a b : Reg) : Statement (.mul rd a b) :=
  ⟨⟨"MUL", 0x03, .s2⟩, by decide, rfl, selects_of_mask (op := 0x03) (formatR_mask_s2 ..) (by decide)⟩

theorem div (rd a b : Reg) : Statement (.div rd a b) :=
  ⟨⟨"DIV", 0x04, .s2⟩, by decide, rfl, selects_of_mask (op := 0x04) (formatR_mask_s2 ..) (by decide)⟩

theorem mod (rd a b : Reg) : Statement (.mod rd a b) :=
  ⟨⟨"MOD", 0x05, .s2⟩, by decide, rfl, selects_of_mask (op := 0x05) (formatR_mask_s2 ..) (by decide)⟩

theorem abs (rd a : Reg) : Statement (.abs rd a) :=
  ⟨⟨"ABS", 0x06, .s1⟩, by decide, rfl, selects_of_mask (op := 0x06) (formatR_mask_s1 ..) (by decide)⟩

theorem min (rd a b : Reg) : Statement (.min rd a b) :=
  ⟨⟨"MIN", 0x07, .s2⟩, by decide, rfl, selects_of_mask (op := 0x07) (formatR_mask_s2 ..) (by decide)⟩

theorem max (rd a b : Reg) : Statement (.max rd a b) :=
  ⟨⟨"MAX", 0x08, .s2⟩, by decide, rfl, selects_of_mask (op := 0x08) (formatR_mask_s2 ..) (by decide)⟩

theorem clamp (rd a b c : Reg) : Statement (.clamp rd a b c) :=
  ⟨⟨"CLAMP", 0x09, .s3⟩, by decide, rfl, selects_of_mask (op := 0x09) (formatR_mask_s3 ..) (by decide)⟩

theorem floor (rd a : Reg) : Statement (.floor rd a) :=
  ⟨⟨"FLOOR", 0x0A, .s1⟩, by decide, rfl, selects_of_mask (op := 0x0A) (formatR_mask_s1 ..) (by decide)⟩

theorem ceil (rd a : Reg) : Statement (.ceil rd a) :=
  ⟨⟨"CEIL", 0x0B, .s1⟩, by decide, rfl, selects_of_mask (op := 0x0B) (formatR_mask_s1 ..) (by decide)⟩

theorem round (rd a : Reg) : Statement (.round rd a) :=
  ⟨⟨"ROUND", 0x0C, .s1⟩, by decide, rfl, selects_of_mask (op := 0x0C) (formatR_mask_s1 ..) (by decide)⟩

theorem lerp (rd a b c : Reg) : Statement (.lerp rd a b c) :=
  ⟨⟨"LERP", 0x0D, .s3⟩, by decide, rfl, selects_of_mask (op := 0x0D) (formatR_mask_s3 ..) (by decide)⟩

theorem awrap (rd a : Reg) : Statement (.awrap rd a) :=
  ⟨⟨"AWRAP", 0x10, .s1⟩, by decide, rfl, selects_of_mask (op := 0x10) (formatR_mask_s1 ..) (by decide)⟩

theorem sin (rd a : Reg) : Statement (.sin rd a) :=
  ⟨⟨"SIN", 0x11, .s1⟩, by decide, rfl, selects_of_mask (op := 0x11) (formatR_mask_s1 ..) (by decide)⟩

theorem cos (rd a : Reg) : Statement (.cos rd a) :=
  ⟨⟨"COS", 0x12, .s1⟩, by decide, rfl, selects_of_mask (op := 0x12) (formatR_mask_s1 ..) (by decide)⟩

theorem tan (rd a : Reg) : Statement (.tan rd a) :=
  ⟨⟨"TAN", 0x13, .s1⟩, by decide, rfl, selects_of_mask (op := 0x13) (formatR_mask_s1 ..) (by decide)⟩

theorem atan2 (rd a b : Reg) : Statement (.atan2 rd a b) :=
  ⟨⟨"ATAN2", 0x18, .s2⟩, by decide, rfl, selects_of_mask (op := 0x18) (formatR_mask_s2 ..) (by decide)⟩

theorem atan (rd a : Reg) : Statement (.atan rd a) :=
  ⟨⟨"ATAN", 0x19, .s1⟩, by decide, rfl, selects_of_mask (op := 0x19) (formatR_mask_s1 ..) (by decide)⟩

theorem asin (rd a : Reg) : Statement (.asin rd a) :=
  ⟨⟨"ASIN", 0x1A, .s1⟩, by decide, rfl, selects_of_mask (op := 0x1A) (formatR_mask_s1 ..) (by decide)⟩

theorem acos (rd a : Reg) : Statement (.acos rd a) :=
  ⟨⟨"ACOS", 0x1B, .s1⟩, by decide, rfl, selects_of_mask (op := 0x1B) (formatR_mask_s1 ..) (by decide)⟩

theorem sqrt (rd a : Reg) : Statement (.sqrt rd a) :=
  ⟨⟨"SQRT", 0x20, .s1⟩, by decide, rfl, selects_of_mask (op := 0x20) (formatR_mask_s1 ..) (by decide)⟩

theorem ldh (rd : Reg) (imm : Imm16) : Statement (.ldh rd imm) :=
  ⟨⟨"LDH", 0x30, .imm⟩, by decide, rfl, selects_of_mask (op := 0x30) (formatI_mask_imm ..) (by decide)⟩

theorem ldl (rd : Reg) (imm : Imm16) : Statement (.ldl rd imm) :=
  ⟨⟨"LDL", 0x31, .imm⟩, by decide, rfl, selects_of_mask (op := 0x31) (formatI_mask_imm ..) (by decide)⟩

theorem mov (rd a : Reg) : Statement (.mov rd a) :=
  ⟨⟨"MOV", 0x32, .s1⟩, by decide, rfl, selects_of_mask (op := 0x32) (formatR_mask_s1 ..) (by decide)⟩

end EncodeRow

end Sys2Proof.Laws
end

