-- ==== Sys2Proof/Laws/Step.lean ====
section
/-! SUPPORT. Sys2Proof/Laws/Step.lean: what issuing a command, an access and a step can do, said once each. -/

namespace Sys2Proof.Machine

/-! ### The slots of the port, by the slot number of an offset -/

theorem portSlot_eq_cmd {offset : Nat} (h : offset % 256 / 4 = 0) : portSlot offset = .cmd := by
  simp [portSlot, h]

theorem portSlot_eq_status {offset : Nat} (h : offset % 256 / 4 = 1) : portSlot offset = .status := by
  simp [portSlot, h]

theorem portSlot_eq_xreg {offset : Nat} {r : Reg} (h : offset % 256 / 4 = 16 + r.val) : portSlot offset = .xreg r := by
  have := r.isLt
  unfold portSlot
  simp only
  rw [if_neg (by omega), if_neg (by omega), if_pos (by omega)]
  congr 1
  ext
  simp only [Fin.ofNat]
  omega

theorem portSlot_eq_reserved {offset : Nat} (h : 2 ≤ offset % 256 / 4)
    (hx : ¬(16 ≤ offset % 256 / 4 ∧ offset % 256 / 4 < 32)) : portSlot offset = .reserved := by
  unfold portSlot
  simp only
  rw [if_neg (by omega), if_neg (by omega), if_neg hx]

/-- Every offset has one of the four kinds of slot, and its slot number says which. -/
theorem portSlot_cases (offset : Nat) :
    (offset % 256 / 4 = 0 ∧ portSlot offset = .cmd) ∨ (offset % 256 / 4 = 1 ∧ portSlot offset = .status) ∨
    (∃ r : Reg, offset % 256 / 4 = 16 + r.val ∧ portSlot offset = .xreg r) ∨
    ((2 ≤ offset % 256 / 4 ∧ ¬(16 ≤ offset % 256 / 4 ∧ offset % 256 / 4 < 32)) ∧ portSlot offset = .reserved) := by
  by_cases h0 : offset % 256 / 4 = 0
  · exact .inl ⟨h0, portSlot_eq_cmd h0⟩
  by_cases h1 : offset % 256 / 4 = 1
  · exact .inr (.inl ⟨h1, portSlot_eq_status h1⟩)
  by_cases hx : 16 ≤ offset % 256 / 4 ∧ offset % 256 / 4 < 32
  · have h : offset % 256 / 4 = 16 + (offset % 256 / 4 - 16) := by omega
    exact .inr (.inr (.inl ⟨⟨offset % 256 / 4 - 16, by omega⟩, h, portSlot_eq_xreg h⟩))
  · have h : 2 ≤ offset % 256 / 4 := by omega
    exact .inr (.inr (.inr ⟨⟨h, hx⟩, portSlot_eq_reserved h hx⟩))

/-! ### Commands, accesses, steps -/

/-- A word at CMD is a command that runs, or an illegal word that raises IllegalCommand. -/
theorem issue_cases (w : Word) (s : State) :
    (∃ i, decode w = .ok i ∧ issue w s = exec i s) ∨
    (∃ e, decode w = .error e ∧ issue w s = .next (s.raise .illegalCommand)) := by
  cases h : decode w with
  | ok i => exact .inl ⟨i, rfl, by simp [issue, h]⟩
  | error e => exact .inr ⟨e, rfl, by simp [issue, h]⟩

/-- What a 32-bit access can do. -/
theorem performAccess_cases {a : HostAccess} {s t : State} (h : performAccess a s = .next t) :
    (∃ offset, a = .read offset 32 ∧ t = s.answer (s.readSlot (portSlot offset))) ∨
    (∃ offset v, a = .write offset 32 v ∧ portSlot offset = .cmd ∧ issue v s = .next t) ∨
    (∃ offset v, a = .write offset 32 v ∧ portSlot offset = .status ∧ t = s.writeStatus v) ∨
    (∃ offset v r, a = .write offset 32 v ∧ portSlot offset = .xreg r ∧ t = s.writeReg r v) ∨
    (∃ offset v, a = .write offset 32 v ∧ portSlot offset = .reserved ∧ t = s) := by
  cases a with
  | read offset bits =>
    simp only [performAccess] at h
    split at h
    · rename_i hb; subst hb; cases h; exact .inl ⟨offset, rfl, rfl⟩
    · cases h
  | write offset bits v =>
    simp only [performAccess] at h
    split at h
    · rename_i hb; subst hb
      cases hs : portSlot offset <;> simp only [writeSlot, hs] at h
      · exact .inr (.inl ⟨offset, v, rfl, hs, h⟩)
      · cases h; exact .inr (.inr (.inl ⟨offset, v, rfl, hs, rfl⟩))
      · rename_i r; cases h; exact .inr (.inr (.inr (.inl ⟨offset, v, r, rfl, hs, rfl⟩)))
      · cases h; exact .inr (.inr (.inr (.inr ⟨offset, v, rfl, hs, rfl⟩)))
    · cases h

/-- What a step can do when it answers a next state: idle, an access, or a reset. -/
theorem step_cases {s t : State} (h : step s = .next t) :
    (s.pending = [] ∧ t = s) ∨
    (∃ a rest, s.pending = .access a :: rest ∧ performAccess a (s.accept rest) = .next t) ∨
    (∃ lost rest, s.pending = .reset lost :: rest ∧ t = (s.accept rest).applyReset) := by
  unfold step at h
  split at h
  · rename_i hp; cases h; exact .inl ⟨hp, rfl⟩
  · rename_i a rest hp
    cases a with
    | access acc => exact .inr (.inl ⟨acc, rest, hp, h⟩)
    | reset lost => cases h; exact .inr (.inr ⟨lost, rest, hp, rfl⟩)

/-- A step at a write to CMD issues the word. -/
theorem step_write_cmd {s : State} {rest : List HostAction} {offset : Nat} {w : Word} (ho : offset % 256 / 4 = 0)
    (hp : s.pending = .access (.write offset 32 w) :: rest) : step s = issue w (s.accept rest) := by
  simp [step, hp, perform, performAccess, writeSlot, portSlot_eq_cmd ho]

/-- A run of one step more starts with that step. -/
theorem run_succ {s t : State} (h : step s = .next t) (n : Nat) :
    Host.Core.run Sys2Proof.core (n + 1) s = Host.Core.run Sys2Proof.core n t := by
  have hc : Sys2Proof.core.step s = .next t := h
  simp only [Host.Core.run, hc]

/-- The table's word placed as the next action is the next command issued. -/
theorem step_withFetchWord (s : State) (nbits w : Nat) :
    step (s.withFetchWord nbits w) = issue (tableWord nbits w) ((s.withFetchWord nbits w).accept s.pending) := rfl

end Sys2Proof.Machine
end

