-- ==== Sys2Proof/Tests/Slice0.lean ====
section
/-! SUPPORT. Sys2Proof/Tests/Slice0.lean: the model's own tests. Expected results come from 95_test_vectors.md and from words
written out by hand from the formats of 30_encoding.md R71 to R73. Every `witness_` theorem shows a state and operands that
meet all the hypotheses of one obligation. -/

namespace Sys2Proof.Tests

open Sys2Proof Sys2Proof.Machine Sys2Proof.Statements

/-! ### Helpers -/

/-- The start of a vector of 95_test_vectors.md section 2: x1, x2 and x4 hold the inputs, x3 holds 0x5A5A5A5A. -/
def machine (x1 x2 x4 : Word) : State :=
  (((State.reset.writeReg 1 x1).writeReg 2 x2).writeReg 3 0x5A5A5A5A).writeReg 4 x4

/-- Register r and STATUS after the word `w` is written to CMD; none where the step does not answer or an unwritten register
was read. -/
def result (r : Reg) (w : Nat) (s : State) : Option (Word × Word) :=
  match step (s.withFetchWord 32 w) with
  | .next t => if t.noUninit then some (t.reg r, t.status) else none
  | .fault _ => none
  | .refused _ => none

/-- What a step at the host action `a` leaves, through `f`. -/
def after {α : Type} (a : HostAction) (s : State) (f : State → α) : Option α :=
  match step { s with pending := a :: s.pending } with
  | .next t => some (f t)
  | .fault _ => none
  | .refused _ => none

/-- The state with both flags set. -/
def flagged : State := { machine 1 2 3 with status := 3 }

/-- The state with one host action pending. -/
def facing (a : HostAction) (s : State) : State := { s with pending := [a] }

/-! ### Ill-formed terms are refused -/

/-- An op that no row has (R85), and one reserved for exp, log and pow (R84). -/
theorem test_unassigned_ops_are_refused :
    decode 0x00000000 = .error .unassignedOpcode ∧ decode 0x38000000 = .error .unassignedOpcode ∧
    decode 0x50000000 = .error .unassignedOpcode ∧ decode 0x70000000 = .error .unassignedOpcode ∧
    decode 0xCC000000 = .error .unassignedOpcode ∧ decode 0xFC000000 = .error .unassignedOpcode ∧
    decode 0x84000000 = .error .reservedOpcode ∧ decode 0xBC000000 = .error .reservedOpcode := by decide

/-- A 1 in zR, in an unused source field of S1 and S2, in zI (R76). -/
theorem test_nonzero_reserved_bits_are_refused :
    decode 0x04C48001 = .error .nonzeroReservedBits ∧ decode 0x18C44000 = .error .nonzeroReservedBits ∧
    decode 0x24C49001 = .error .nonzeroReservedBits ∧ decode 0x60C4A000 = .error .nonzeroReservedBits ∧
    decode 0x80C44000 = .error .nonzeroReservedBits ∧ decode 0xC0410000 = .error .nonzeroReservedBits := by decide

theorem test_illegal_words_are_not_legal :
    legalWord 0x00000000 = false ∧ legalWord 0x04C48001 = false ∧ legalWord 0x84000000 = false ∧
    legalWord 0x04C48000 = true := by decide

/-- 8 and 16 bits wide (20_memory.md R53). -/
theorem test_narrow_accesses_are_ill_formed :
    (HostAccess.read 0x044 8).wellFormed = false ∧ (HostAccess.write 0x044 16 0).wellFormed = false ∧
    (HostAction.access (.read 0x044 8)).wellFormed = false ∧ (HostAccess.read 0x044 32).wellFormed = true := by decide

/-- The ranges of FROMINT and LIANG (R87). -/
theorem test_pseudo_operands_out_of_range_are_ill_formed :
    (Pseudo.fromint 1 32768).wellFormed = false ∧ (Pseudo.fromint 1 (-32769)).wellFormed = false ∧
    (Pseudo.liang 1 4096).wellFormed = false ∧ (AsmLine.pseudo (.liang 1 4096)).wellFormed = false ∧
    (Pseudo.fromint 1 (-32768)).wellFormed = true ∧ (Pseudo.liang 1 4095).wellFormed = true := by decide

/-- A raw word line that is a command (R88). -/
theorem test_a_legal_word_is_no_illegal_line :
    (AsmLine.word 0x04C48000).wellFormed = false ∧ (AsmLine.word 0x04C48001).wellFormed = true := by decide

/-! ### Decoding: one word of each command, bit by bit from the formats: op, rd, rs1, rs2, rs3, zeros; or op, rd, zeros, imm16.
The first clause is the hypothesis of the command's row statement. -/

theorem test_decode_add :
    (0b00000111010110101100000000000000 : Word) &&& 0xFC003FFF = 0x04000000 ∧
    decode 0b00000111010110101100000000000000 = .ok (.add 13 6 11) := by decide

theorem test_decode_sub :
    (0b00001011010110101100000000000000 : Word) &&& 0xFC003FFF = 0x08000000 ∧
    decode 0b00001011010110101100000000000000 = .ok (.sub 13 6 11) := by decide

theorem test_decode_mul :
    (0b00001111010110101100000000000000 : Word) &&& 0xFC003FFF = 0x0C000000 ∧
    decode 0b00001111010110101100000000000000 = .ok (.mul 13 6 11) := by decide

theorem test_decode_div :
    (0b00010011010110101100000000000000 : Word) &&& 0xFC003FFF = 0x10000000 ∧
    decode 0b00010011010110101100000000000000 = .ok (.div 13 6 11) := by decide

theorem test_decode_mod :
    (0b00010111010110101100000000000000 : Word) &&& 0xFC003FFF = 0x14000000 ∧
    decode 0b00010111010110101100000000000000 = .ok (.mod 13 6 11) := by decide

theorem test_decode_abs :
    (0b00011011010110000000000000000000 : Word) &&& 0xFC03FFFF = 0x18000000 ∧
    decode 0b00011011010110000000000000000000 = .ok (.abs 13 6) := by decide

theorem test_decode_min :
    (0b00011111010110101100000000000000 : Word) &&& 0xFC003FFF = 0x1C000000 ∧
    decode 0b00011111010110101100000000000000 = .ok (.min 13 6 11) := by decide

theorem test_decode_max :
    (0b00100011010110101100000000000000 : Word) &&& 0xFC003FFF = 0x20000000 ∧
    decode 0b00100011010110101100000000000000 = .ok (.max 13 6 11) := by decide

theorem test_decode_clamp :
    (0b00100111010110101101110000000000 : Word) &&& 0xFC0003FF = 0x24000000 ∧
    decode 0b00100111010110101101110000000000 = .ok (.clamp 13 6 11 7) := by decide

theorem test_decode_floor :
    (0b00101011010110000000000000000000 : Word) &&& 0xFC03FFFF = 0x28000000 ∧
    decode 0b00101011010110000000000000000000 = .ok (.floor 13 6) := by decide

theorem test_decode_ceil :
    (0b00101111010110000000000000000000 : Word) &&& 0xFC03FFFF = 0x2C000000 ∧
    decode 0b00101111010110000000000000000000 = .ok (.ceil 13 6) := by decide

theorem test_decode_round :
    (0b00110011010110000000000000000000 : Word) &&& 0xFC03FFFF = 0x30000000 ∧
    decode 0b00110011010110000000000000000000 = .ok (.round 13 6) := by decide

theorem test_decode_lerp :
    (0b00110111010110101101110000000000 : Word) &&& 0xFC0003FF = 0x34000000 ∧
    decode 0b00110111010110101101110000000000 = .ok (.lerp 13 6 11 7) := by decide

theorem test_decode_awrap :
    (0b01000011010110000000000000000000 : Word) &&& 0xFC03FFFF = 0x40000000 ∧
    decode 0b01000011010110000000000000000000 = .ok (.awrap 13 6) := by decide

theorem test_decode_sin :
    (0b01000111010110000000000000000000 : Word) &&& 0xFC03FFFF = 0x44000000 ∧
    decode 0b01000111010110000000000000000000 = .ok (.sin 13 6) := by decide

theorem test_decode_cos :
    (0b01001011010110000000000000000000 : Word) &&& 0xFC03FFFF = 0x48000000 ∧
    decode 0b01001011010110000000000000000000 = .ok (.cos 13 6) := by decide

theorem test_decode_tan :
    (0b01001111010110000000000000000000 : Word) &&& 0xFC03FFFF = 0x4C000000 ∧
    decode 0b01001111010110000000000000000000 = .ok (.tan 13 6) := by decide

theorem test_decode_atan2 :
    (0b01100011010110101100000000000000 : Word) &&& 0xFC003FFF = 0x60000000 ∧
    decode 0b01100011010110101100000000000000 = .ok (.atan2 13 6 11) := by decide

theorem test_decode_atan :
    (0b01100111010110000000000000000000 : Word) &&& 0xFC03FFFF = 0x64000000 ∧
    decode 0b01100111010110000000000000000000 = .ok (.atan 13 6) := by decide

theorem test_decode_asin :
    (0b01101011010110000000000000000000 : Word) &&& 0xFC03FFFF = 0x68000000 ∧
    decode 0b01101011010110000000000000000000 = .ok (.asin 13 6) := by decide

theorem test_decode_acos :
    (0b01101111010110000000000000000000 : Word) &&& 0xFC03FFFF = 0x6C000000 ∧
    decode 0b01101111010110000000000000000000 = .ok (.acos 13 6) := by decide

theorem test_decode_sqrt :
    (0b10000011010110000000000000000000 : Word) &&& 0xFC03FFFF = 0x80000000 ∧
    decode 0b10000011010110000000000000000000 = .ok (.sqrt 13 6) := by decide

theorem test_decode_ldh :
    (0b11000011010000001000010000100001 : Word) &&& 0xFC3F0000 = 0xC0000000 ∧
    decode 0b11000011010000001000010000100001 = .ok (.ldh 13 0x8421) := by decide

theorem test_decode_ldl :
    (0b11000111010000001000010000100001 : Word) &&& 0xFC3F0000 = 0xC4000000 ∧
    decode 0b11000111010000001000010000100001 = .ok (.ldl 13 0x8421) := by decide

theorem test_decode_mov :
    (0b11001011010110000000000000000000 : Word) &&& 0xFC03FFFF = 0xC8000000 ∧
    decode 0b11001011010110000000000000000000 = .ok (.mov 13 6) := by decide

/-! ### One step of each command (95_test_vectors.md section 2) -/

theorem test_add_wraps :
    result 3 0x04C48000 (machine 0x7FFFFFFF 0x00000001 0x00000000) = some (0x80000000, 0x00000000) := by decide

theorem test_add_of_halves :
    result 3 0x04C48000 (machine 0x00018000 0x00024000 0x00000000) = some (0x0003C000, 0x00000000) := by decide

theorem test_sub_wraps_at_the_minimum :
    result 3 0x08C48000 (machine 0x00000000 0x80000000 0x00000000) = some (0x80000000, 0x00000000) := by decide

theorem test_sub_is_not_commutative :
    result 3 0x08C48000 (machine 0x00010000 0x00028000 0x00000000) = some (0xFFFE8000, 0x00000000) := by decide

theorem test_mul_floors_toward_minus_infinity :
    result 3 0x0CC48000 (machine 0xFFFFFFFF 0x00000001 0x00000000) = some (0xFFFFFFFF, 0x00000000) := by decide

theorem test_mul_wraps_after_the_shift :
    result 3 0x0CC48000 (machine 0x00B60000 0x00B60000 0x00000000) = some (0x81640000, 0x00000000) := by decide

theorem test_div_truncates_toward_zero :
    result 3 0x10C48000 (machine 0xFFFF0000 0x00030000 0x00000000) = some (0xFFFFAAAB, 0x00000000) := by decide

theorem test_div_by_zero_traps :
    result 3 0x10C48000 (machine 0x00010000 0x00000000 0x00000000) = some (0x5A5A5A5A, 0x00000001) := by decide

theorem test_mod_has_the_sign_of_the_dividend :
    result 3 0x14C48000 (machine 0xFFF88000 0x00020000 0x00000000) = some (0xFFFE8000, 0x00000000) := by decide

theorem test_mod_by_zero_traps :
    result 3 0x14C48000 (machine 0x00000005 0x00000000 0x00000000) = some (0x5A5A5A5A, 0x00000001) := by decide

theorem test_abs_of_the_minimum_wraps :
    result 3 0x18C40000 (machine 0x80000000 0x00000000 0x00000000) = some (0x80000000, 0x00000000) := by decide

theorem test_abs_of_a_negative :
    result 3 0x18C40000 (machine 0xFFFD8000 0x00000000 0x00000000) = some (0x00028000, 0x00000000) := by decide

theorem test_min_is_signed :
    result 3 0x1CC48000 (machine 0xFFFF0000 0x00010000 0x00000000) = some (0xFFFF0000, 0x00000000) := by decide

theorem test_min_at_the_ends :
    result 3 0x1CC48000 (machine 0x80000000 0x7FFFFFFF 0x00000000) = some (0x80000000, 0x00000000) := by decide

theorem test_max_is_signed :
    result 3 0x20C48000 (machine 0xFFFF0000 0x00010000 0x00000000) = some (0x00010000, 0x00000000) := by decide

theorem test_max_at_the_ends :
    result 3 0x20C48000 (machine 0x80000000 0x7FFFFFFF 0x00000000) = some (0x7FFFFFFF, 0x00000000) := by decide

theorem test_clamp_compares_low_first :
    result 3 0x24C49000 (machine 0x00030000 0x00050000 0x00010000) = some (0x00050000, 0x00000000) := by decide

theorem test_clamp_caps_high :
    result 3 0x24C49000 (machine 0x00050000 0x00000000 0x00010000) = some (0x00010000, 0x00000000) := by decide

theorem test_floor_of_a_negative :
    result 3 0x28C40000 (machine 0xFFFE8000 0x00000000 0x00000000) = some (0xFFFE0000, 0x00000000) := by decide

theorem test_floor_of_the_last_word :
    result 3 0x28C40000 (machine 0xFFFFFFFF 0x00000000 0x00000000) = some (0xFFFF0000, 0x00000000) := by decide

theorem test_ceil_wraps_at_the_top :
    result 3 0x2CC40000 (machine 0x7FFF0001 0x00000000 0x00000000) = some (0x80000000, 0x00000000) := by decide

theorem test_ceil_keeps_an_integer :
    result 3 0x2CC40000 (machine 0x00020000 0x00000000 0x00000000) = some (0x00020000, 0x00000000) := by decide

theorem test_round_sends_a_negative_half_up :
    result 3 0x30C40000 (machine 0xFFFE8000 0x00000000 0x00000000) = some (0xFFFF0000, 0x00000000) := by decide

theorem test_round_below_a_half_goes_down :
    result 3 0x30C40000 (machine 0x00027FFF 0x00000000 0x00000000) = some (0x00020000, 0x00000000) := by decide

theorem test_lerp_wraps_the_difference :
    result 3 0x34C49000 (machine 0x8AD00000 0x75300000 0x00008000) = some (0x80000000, 0x00000000) := by decide

theorem test_lerp_past_the_end_extrapolates :
    result 3 0x34C49000 (machine 0x00010000 0x00030000 0x00020000) = some (0x00050000, 0x00000000) := by decide

theorem test_awrap_of_minus_one :
    result 3 0x40C40000 (machine 0xFFFFFFFF 0x00000000 0x00000000) = some (0x00000FFF, 0x00000000) := by decide

theorem test_awrap_of_a_turn_and_more :
    result 3 0x40C40000 (machine 0x00001388 0x00000000 0x00000000) = some (0x00000388, 0x00000000) := by decide

theorem test_sin_folds_its_angle :
    result 3 0x44C40000 (machine 0xFFFFFFFF 0x00000000 0x00000000) = some (0xFFFFFF9B, 0x00000000) := by decide

theorem test_sin_of_a_quarter_turn :
    result 3 0x44C40000 (machine 0x00000400 0x00000000 0x00000000) = some (0x00010000, 0x00000000) := by decide

theorem test_cos_wraps_the_sum :
    result 3 0x48C40000 (machine 0x7FFFFFFF 0x00000000 0x00000000) = some (0x00010000, 0x00000000) := by decide

theorem test_cos_just_before_the_end :
    result 3 0x48C40000 (machine 0x00000BFF 0x00000000 0x00000000) = some (0xFFFFFF9B, 0x00000000) := by decide

theorem test_tan_at_the_asymptote :
    result 3 0x4CC40000 (machine 0x00000C00 0x00000000 0x00000000) = some (0x7FFFFFFF, 0x00000000) := by decide

theorem test_tan_past_the_asymptote :
    result 3 0x4CC40000 (machine 0x00000401 0x00000000 0x00000000) = some (0xFD741A14, 0x00000000) := by decide

theorem test_atan2_in_the_fourth_quadrant :
    result 3 0x60C48000 (machine 0xFFFD0000 0x00040000 0x00000000) = some (0x00000E5B, 0x00000000) := by decide

theorem test_atan2_traps_where_the_denominator_wraps_to_zero :
    result 3 0x60C48000 (machine 0x80000000 0x80000000 0x00000000) = some (0x5A5A5A5A, 0x00000001) := by decide

theorem test_atan_of_a_large_negative :
    result 3 0x64C40000 (machine 0xFC180000 0x00000000 0x00000000) = some (0x00000C01, 0x00000000) := by decide

theorem test_atan_of_a_half :
    result 3 0x64C40000 (machine 0x00008000 0x00000000 0x00000000) = some (0x0000012F, 0x00000000) := by decide

theorem test_asin_of_a_half :
    result 3 0x68C40000 (machine 0x00008000 0x00000000 0x00000000) = some (0x00000157, 0x00000000) := by decide

theorem test_asin_next_to_minus_one :
    result 3 0x68C40000 (machine 0xFFFF0001 0x00000000 0x00000000) = some (0x00000C03, 0x00000000) := by decide

theorem test_acos_of_minus_a_half :
    result 3 0x6CC40000 (machine 0xFFFF8000 0x00000000 0x00000000) = some (0x00000557, 0x00000000) := by decide

theorem test_acos_above_one_clamps :
    result 3 0x6CC40000 (machine 0x7FFFFFFF 0x00000000 0x00000000) = some (0x00000000, 0x00000000) := by decide

theorem test_sqrt_of_the_minimum :
    result 3 0x80C40000 (machine 0x80000000 0x00000000 0x00000000) = some (0xFF4AFB0D, 0x00000000) := by decide

theorem test_sqrt_of_two :
    result 3 0x80C40000 (machine 0x00020000 0x00000000 0x00000000) = some (0x00016A09, 0x00000000) := by decide

theorem test_ldh_is_signed_and_reads_nothing : result 5 0xC1408000 State.reset = some (0x80000000, 0x00000000) := by decide

theorem test_ldh_clears_the_low_half :
    result 3 0xC0C00004 (machine 0 0 0) = some (0x00040000, 0x00000000) := by decide

theorem test_ldl_keeps_the_high_half :
    result 3 0xC4C01234 (machine 0 0 0) = some (0x5A5A1234, 0x00000000) := by decide

theorem test_ldl_is_not_sign_extended :
    result 1 0xC4408000 (machine 0xFFFF0000 0 0) = some (0xFFFF8000, 0x00000000) := by decide

theorem test_mov_copies : result 3 0xC8C40000 (machine 0x12345678 0 0) = some (0x12345678, 0x00000000) := by decide

/-- `ADD x1, x1, x1`: the sources are read before rd is written (00_scope.md R10). -/
theorem test_sources_are_read_before_rd : result 1 0x04444000 (machine 0x00010000 0 0) = some (0x00020000, 0) := by decide

/-! ### The host port (95_test_vectors.md section 2.7) -/

theorem test_reads_follow_the_map :
    after (.access (.read 0x000 32)) (machine 0x11111111 0 0) (fun t => t.returned.map HostReturn.word) = some [0] ∧
    after (.access (.read 0x045 32)) (machine 0x11111111 0 0) (fun t => t.returned.map HostReturn.word) = some [0x11111111] ∧
    after (.access (.read 0x0FC 32)) (machine 0x11111111 0 0) (fun t => t.returned.map HostReturn.word) = some [0] ∧
    after (.access (.read 0x004 32)) flagged (fun t => t.returned.map HostReturn.word) = some [3] := by decide

theorem test_writes_follow_the_map :
    after (.access (.write 0x047 32 0x22222222)) (machine 0x11111111 0 0) (fun t => t.reg 1) = some 0x22222222 ∧
    after (.access (.write 0x008 32 0xFFFFFFFF)) (machine 1 2 4) (fun t => (t.reg 1, t.status)) = some (1, 0) := by decide

/-- Bits 0 and 1 alone clear flags, and no write sets one. -/
theorem test_status_writes :
    after (.access (.write 0x004 32 0xFFFFFFFC)) flagged State.status = some 3 ∧
    after (.access (.write 0x004 32 0x00000001)) flagged State.status = some 2 ∧
    after (.access (.write 0x004 32 0xFFFFFFFF)) flagged State.faultO = some false ∧
    after (.access (.write 0x004 32 0x00000003)) (machine 0 0 0) State.status = some 0 := by decide

theorem test_a_narrow_access_is_refused : step (facing (.access (.read 0x044 8)) State.reset) = .refused (.accessWidth 8) := rfl

/-! ### Exceptions, the record and reset (sections 2.8, 2.9) -/

theorem test_an_illegal_word_raises_and_reads_nothing :
    after (cmdWrite 0x00000000) State.reset (fun t => (t.status, t.faultO, t.exceptions, t.uninits)) =
      some (2, true, [⟨1, .illegalCommand⟩], []) := by decide

/-- A flag blocks nothing, and stays. -/
theorem test_a_flag_does_not_block_commands : result 3 0x04C44000 flagged = some (2, 3) := by decide

theorem test_reset_clears_status_and_marks :
    after (.reset [.write 0 32 0x10C48000]) flagged (fun t => (t.status, t.isWritten 1)) = some (0, false) := by decide

/-- `LDL x5, 0x1234` with x5 not written. -/
theorem test_an_unwritten_read_leaves_no_observation :
    after (cmdWrite 0xC5401234) State.reset State.observation = some (.error (.uninit ⟨1, 5⟩)) := by decide

/-- Actions 1 to 4 of program P3: LDH, LDH, a DIV by zero, host.st. -/
theorem test_observation_of_a_short_run :
    (match runActions [cmdWrite 0xC0400001, cmdWrite 0xC0800000, cmdWrite 0x10C48000, .access (.read 0x004 32)] with
      | .next t => (t.observation.map fun o => (o.registers.take 4, o.status, o.returned, o.exceptions)).toOption
      | .fault _ => none
      | .refused _ => none) =
    some ([none, some 0x00010000, some 0, none], 1, [1], [⟨3, .divideByZero⟩]) := by decide

/-! ### The assembler (30_encoding.md R86 to R88) -/

theorem test_assembles_a_command : assemble ["  clamp X3, x1,x2 , x4 ; a comment"] = some [cmdWrite 0x24C49000] := by decide

theorem test_assembles_li :
    assemble ["LI x2, 0xFFFF8000", "LI x1, 0x00010000", "LDH x1, -1"] =
      some [cmdWrite 0xC080FFFF, cmdWrite 0xC4808000, cmdWrite 0xC0400001, cmdWrite 0xC040FFFF] := by decide

theorem test_assembles_host_actions :
    assemble ["host.wr x1, 0x7", "host.rd x3", "host.st", "host.clr 1", "host.reset"] =
      some [.access (.write 0x044 32 7), .access (.read 0x04C 32), .access (.read 0x004 32), .access (.write 0x004 32 1),
        .reset []] := by decide

theorem test_refuses_bad_lines :
    assemble ["LIANG x1, 4096"] = none ∧ assemble ["ADD x1, x2"] = none ∧ assemble ["MOV x16, x1"] = none ∧
    assemble ["LDH x1, 65536"] = none := by decide

theorem test_disassembles :
    (disassemble 0x24C49000).toList = "CLAMP x3, x1, x2, x4".toList ∧
    (disassemble 0x04C48001).toList = ".illegal 0x04C48001".toList := by decide

/-! ### Reset -/

theorem test_reset_state : State.reset.status = 0 ∧ State.reset.pending = [] ∧ State.reset.exceptions = [] := by decide

/-! ### Witnesses: for each obligation with hypotheses, concrete states and operands that meet them all together -/

/-- The sources of every result statement are written: `machine` meets the hypothesis of each, with the operands of the
one-step tests above, at every input. -/
theorem witness_Ready (x1 x2 x4 : Word) :
    Ready (machine x1 x2 x4) [1] ∧ Ready (machine x1 x2 x4) [1, 2] ∧ Ready (machine x1 x2 x4) [1, 2, 4] ∧
    Ready (machine x1 x2 x4) [3] := by
  have h : (machine x1 x2 x4).written = (machine 0 0 0).written := rfl
  simp only [Ready, State.isWritten, h]
  decide

theorem witness_EncodeInvertsDecode : decode 0x04C48000 = .ok (.add 3 1 2) ∧ decode 0xC4FFFFFF = .error .nonzeroReservedBits ∧
    decode 0xC7C0FFFF = .ok (.ldl 15 0xFFFF) := by decide

theorem witness_EveryWordIsOneRowOrIllegal :
    (∃ r ∈ opcodeMap, r.selects 0x04C48000 = true) ∧ (∀ r ∈ opcodeMap, r.selects 0x04C48001 = false) ∧
    (facing (cmdWrite 0x04C48001) State.reset).pending = cmdWrite 0x04C48001 :: [] := by decide

/-- The offset is the last that reaches CMD, in the window's second image. -/
theorem witness_StepRunsTheDecodedCommand :
    0x103 % 256 < 4 ∧
    (facing (.access (.write 0x103 32 0x04C48000)) (machine 1 2 4)).pending = .access (.write 0x103 32 0x04C48000) :: [] ∧
    decode 0x04C48000 = .ok (.add 3 1 2) := by decide

theorem witness_StepTakesOneHostAction :
    State.reset.pending = [] ∧ (facing (.reset []) State.reset).pending = .reset [] :: [] ∧
    ∃ t, step (facing (.reset []) State.reset) = .next t := ⟨rfl, rfl, _, rfl⟩

/-- Each way a word can be illegal, at the ends of its range. -/
theorem witness_IllegalWordsRaiseIllegalCommand :
    0x003 % 256 < 4 ∧
    (facing (.access (.write 0x003 32 0x00000000)) State.reset).pending = .access (.write 0x003 32 0x00000000) :: [] ∧
    (0x00000000 : Word).toNat / 2 ^ 26 = 0x00 ∧ (0x7FFFFFFF : Word).toNat / 2 ^ 26 = 0x1F ∧
    (0xCC000000 : Word).toNat / 2 ^ 26 = 0x33 ∧ (0xFFFFFFFF : Word).toNat / 2 ^ 26 = 0x3F ∧
    (0x84000000 : Word).toNat / 2 ^ 26 = 0x21 ∧ (0xBFFFFFFF : Word).toNat / 2 ^ 26 = 0x2F ∧
    ∃ r ∈ opcodeMap, (0x04C48001 : Word).toNat / 2 ^ 26 = r.op ∧ (0x04C48001 : Word) &&& r.cls.mask ≠ r.matchWord := by decide

theorem witness_DivWritesTheQuotientOrTraps :
    (Ready (machine 7 7 0) [1, 2] ∧ (machine 7 7 0).reg 2 ≠ 0 ∧ (machine 7 7 0).reg 1 = (machine 7 7 0).reg 2) ∧
    Ready (machine 7 0 0) [1, 2] ∧ (machine 7 0 0).reg 2 = 0 := by unfold Ready; decide

theorem witness_ModWritesTheRemainderOrTraps :
    (Ready (machine 0x80000000 1 0) [1, 2] ∧ (machine 0x80000000 1 0).reg 2 ≠ 0) ∧
    Ready (machine 0 0 0) [1, 2] ∧ (machine 0 0 0).reg 2 = 0 := by unfold Ready; decide

theorem witness_LerpInterpolatesWithWrappedSteps :
    Ready (machine 5 9 0x00010000) [1, 2, 4] ∧ (machine 5 9 0x00010000).reg 4 = 0x00010000 ∧
    ∃ u, exec (.lerp 3 1 2 4) (machine 5 9 0x00010000) = .next u :=
  ⟨by unfold Ready; decide, by decide, _, rfl⟩

theorem witness_AnglesAreFoldedAndInRange :
    ((machine 0 0 0).reg 1).toNat % 4096 = ((machine 0xFFFFF000 0 0).reg 1).toNat % 4096 ∧
    (∃ t, exec (.awrap 3 1) (machine 0 0 0) = .next t) ∧ (∃ t, exec (.awrap 3 1) (machine 0xFFFFF000 0 0) = .next t) ∧
    (∃ t, exec (.sin 3 1) (machine 0 0 0) = .next t) ∧ (∃ t, exec (.cos 3 1) (machine 0 0 0) = .next t) ∧
    (∃ t, exec (.tan 3 1) (machine 0 0 0) = .next t) ∧ (∃ t, exec (.atan 3 1) (machine 0 0 0) = .next t) ∧
    (∃ t, exec (.asin 3 1) (machine 0 0 0) = .next t) ∧ (∃ t, exec (.acos 3 1) (machine 0 0 0) = .next t) ∧
    ∃ t, exec (.atan2 3 1 2) (machine 0x80000000 0x80000000 0) = .next t :=
  ⟨by decide, ⟨_, rfl⟩, ⟨_, rfl⟩, ⟨_, rfl⟩, ⟨_, rfl⟩, ⟨_, rfl⟩, ⟨_, rfl⟩, ⟨_, rfl⟩, ⟨_, rfl⟩, _, rfl⟩

theorem witness_SineTableIsTheRoundedSine : 0 < 4096 ∧ 4095 < 4096 := by decide

/-- Both ends of the table, and the entries on either side of 1024. -/
theorem witness_TangentTableIsTheRoundedTangent :
    (0 < 2048 ∧ 0 ≠ 1024) ∧ (1023 < 2048 ∧ 1023 ≠ 1024) ∧ (1025 < 2048 ∧ 1025 ≠ 1024) ∧ (2047 < 2048 ∧ 2047 ≠ 1024) ∧
    (1 ≤ 1 ∧ 1 ≤ 1023) ∧ 1 ≤ 1023 ∧ 1023 ≤ 1023 := by decide

/-- The two angles next to 90 degrees between which |cos| passes 2000 raw units. -/
theorem witness_TablesAgreeWithEachOther :
    2000 ≤ (cosWord 1004).toInt.natAbs ∧ ¬ 2000 ≤ (cosWord 1005).toInt.natAbs := by decide

theorem witness_SqrtLoopIsTheFloorRoot :
    0 ≤ 2 ^ 31 ∧ 11863283 < 2 ^ 24 ∧ 11863283 * 11863283 ≤ 2 ^ 31 * 65536 ∧ 2 ^ 31 ≤ 2 ^ 31 := by decide

theorem witness_SqrtIsFloorTightMonotoneAndOdd :
    0 ≤ (0 : Word).toInt ∧ 0 ≤ (0x7FFFFFFF : Word).toInt ∧ (0 : Word).toInt ≤ (0x7FFFFFFF : Word).toInt ∧
    1 ≤ (1 : Word).toInt ∧ 181 ≤ 181 := by decide

/-- The convention; both ends of the special branch; the denominator that wraps to 0; the general path just below the special
branch; the ratio's bound at its limit. -/
theorem witness_Atan2FollowsTheApproximator :
    0x7FFF0000 ≤ (0x7FFF0000 : Word).toInt.natAbs ∧ 0x7FFF0000 ≤ (0x80000000 : Word).toInt.natAbs ∧
    ¬((0x80000000 : Word) = 0 ∧ (0x80000000 : Word) = 0) ∧
    ¬((0x80000000 : Word) = 0x00010000 ∧ 0x7FFF0000 ≤ (0x80000000 : Word).toInt.natAbs) ∧
    (0x80000000 : Word) - -0x80000000 = 0 ∧
    ¬((0x00010000 : Word) = 0x00010000 ∧ 0x7FFF0000 ≤ (0x7FFEFFFF : Word).toInt.natAbs) ∧
    (0x00010000 : Word) + 0x7FFEFFFF ≠ 0 ∧
    (0x40000000 : Word).toInt.natAbs + (0x3FFFFFFF : Word).toInt.natAbs < 2 ^ 31 := by decide

theorem witness_Atan2WritesTheAngleOrTraps :
    (Ready (machine 0x80000000 0x80000001 0) [1, 2] ∧ Ready (machine 0x80000000 0x80000000 0) [1, 2]) ∧
    ¬((machine 0x80000000 0x80000001 0).reg 1 = 0x80000000 ∧ (machine 0x80000000 0x80000001 0).reg 2 = 0x80000000) ∧
    ((machine 0x80000000 0x80000000 0).reg 1 = 0x80000000 ∧ (machine 0x80000000 0x80000000 0).reg 2 = 0x80000000) ∧
    (0 < 0x3FFFFFFF ∧ (0x3FFFFFFF : Nat) * (1 : Word).toInt = (1 : Nat) * (0x3FFFFFFF : Word).toInt ∧
      (1 : Word).toInt.natAbs + (1 : Word).toInt.natAbs < 2 ^ 31 ∧
      (0x3FFFFFFF : Word).toInt.natAbs + (0x3FFFFFFF : Word).toInt.natAbs < 2 ^ 31) := by
  unfold Ready; decide

/-- Both ends of each clause. -/
theorem witness_AsinWritesTheAngleAndNeverTraps :
    Ready (machine 0xFFFF0000 0 0) [1] ∧ Ready (machine 0x00000033 0 0) [1] ∧
    ((machine 0xFFFF0000 0 0).reg 1).toInt ≤ -65536 ∧ 65536 ≤ ((machine 0x00010000 0 0).reg 1).toInt ∧
    ((machine 0xFFFFFFCE 0 0).reg 1).toInt.natAbs < 51 ∧
    (51 ≤ ((machine 0x00000033 0 0).reg 1).toInt.natAbs ∧ ((machine 0x00000033 0 0).reg 1).toInt.natAbs < 65536) ∧
    (51 ≤ ((machine 0xFFFF0001 0 0).reg 1).toInt.natAbs ∧ ((machine 0xFFFF0001 0 0).reg 1).toInt.natAbs < 65536) := by
  unfold Ready; decide

/-- Both ends of each clause. -/
theorem witness_AcosWritesTheAngleAndNeverTraps :
    Ready (machine 0x80000000 0 0) [1] ∧ Ready (machine 0x0000FFFF 0 0) [1] ∧
    ((machine 0x80000000 0 0).reg 1).toInt ≤ -65536 ∧ 65536 ≤ ((machine 0x7FFFFFFF 0 0).reg 1).toInt ∧
    ((machine 0x00000032 0 0).reg 1).toInt.natAbs < 51 ∧
    (51 ≤ ((machine 0xFFFFFFCD 0 0).reg 1).toInt.natAbs ∧ ((machine 0xFFFFFFCD 0 0).reg 1).toInt.natAbs < 65536) ∧
    (51 ≤ ((machine 0x0000FFFF 0 0).reg 1).toInt.natAbs ∧ ((machine 0x0000FFFF 0 0).reg 1).toInt.natAbs < 65536) := by
  unfold Ready; decide

theorem witness_PseudoInstructionsMeanWhatTheySay :
    (Pseudo.li 1 0xFFFF8000 = .li 1 0xFFFF8000) ∧
    ((-32768 : Int) ≤ -32768 ∧ (-32768 : Int) ≤ 32767 ∧ (0x80000000 : Word) = BitVec.ofInt 32 (-32768 * 65536)) ∧
    (4095 ≤ 4095 ∧ (0xFFF : Word) = BitVec.ofNat 32 4095) := by decide

/-- A command, a host write, a reset: each changes x3, x1 and x1. -/
theorem witness_RegistersChangeOnlyByWrites :
    after (cmdWrite 0x04C48000) (machine 1 2 4) (fun t => decide (t.reg 3 ≠ (machine 1 2 4).reg 3)) = some true ∧
    after (.access (.write 0x044 32 9)) (machine 1 2 4) (fun t => decide (t.reg 1 ≠ (machine 1 2 4).reg 1)) = some true ∧
    after (.reset []) (machine 1 2 4) (fun t => decide (t.reg 1 ≠ (machine 1 2 4).reg 1)) = some true := by decide

/-- A clearing write that leaves one flag, one that clears both, and a reset. -/
theorem witness_FlagsStickUntilClearedOrReset :
    flagged.flagSet .divideByZero = true ∧ flagged.faultO = true ∧
    after (.access (.write 0x004 32 1)) flagged (fun t => (t.flagSet .divideByZero, t.faultO)) = some (false, true) ∧
    after (.access (.write 0x004 32 3)) flagged State.faultO = some false ∧
    after (.reset []) flagged State.faultO = some false := by decide

theorem witness_ExceptionRecordOnlyGrows :
    (∃ t, step (facing (cmdWrite 0x10C48000) (machine 1 0 0)) = .next t) ∧
    after (cmdWrite 0x10C48000) (machine 1 0 0) State.exceptions = some [⟨1, .divideByZero⟩] := ⟨⟨_, rfl⟩, by decide⟩

/-- The state after a DIV by zero at action 3, with an illegal word next. -/
def afterTrap : State :=
  { machine 1 0 0 with status := 1, position := 3, exceptions := [⟨3, .divideByZero⟩], pending := [cmdWrite 0xFC000000] }

theorem witness_StepKeepsConsistency : Consistent afterTrap ∧ ∃ t, step afterTrap = .next t := by
  refine ⟨⟨?_, ?_, by decide, by decide, by decide, by decide, by decide⟩, _, rfl⟩
  · intro k hk
    show (1 : Word).getLsbD k = false
    simp [BitVec.getLsbD_one]
    omega
  · intro c hc
    cases c with
    | divideByZero => exact ⟨⟨3, .divideByZero⟩, by decide, rfl⟩
    | illegalCommand => exact absurd hc (by decide)

theorem witness_EveryRunOfWordAccessesEnds :
    ∀ a ∈ [cmdWrite 0x00000000, .access (.read 0x0FF 32), .reset [.read 0 8], .access (.write 0x004 32 3)],
      HostAction.wellFormed a = true := by decide

/-- Each clause; the step clause at a command with written sources, at an illegal word and at a reset, the last two of which issue
no command. -/
theorem witness_UnwrittenReadsLeaveNoObservation :
    ((∃ r ∈ sources (.mov 3 5), (machine 1 2 4).isWritten r = false) ∧ ∃ t, exec (.mov 3 5) (machine 1 2 4) = .next t) ∧
    (({ State.reset with uninits := [⟨1, 5⟩] } : State).observation = .error (.uninit ⟨1, 5⟩) ∧
      ∃ t, step { State.reset with uninits := [⟨1, 5⟩] } = .next t) ∧
    ((∃ o, (machine 1 2 4).observation = .ok o) ∧ (∀ r ∈ sources (.add 3 1 2), (machine 1 2 4).isWritten r = true) ∧
      ∃ t, exec (.add 3 1 2) (machine 1 2 4) = .next t) ∧
    ((∃ o, (facing (cmdWrite 0x04C48000) (machine 1 2 4)).observation = .ok o) ∧
      (∃ t, step (facing (cmdWrite 0x04C48000) (machine 1 2 4)) = .next t) ∧
      ∀ i, decode 0x04C48000 = .ok i → Ready (facing (cmdWrite 0x04C48000) (machine 1 2 4)) (sources i)) ∧
    ((∃ o, (facing (cmdWrite 0xFC000000) State.reset).observation = .ok o) ∧
      (∃ t, step (facing (cmdWrite 0xFC000000) State.reset) = .next t) ∧ ∀ i, decode 0xFC000000 ≠ .ok i) ∧
    ((∃ o, (facing (.reset []) State.reset).observation = .ok o) ∧
      ∃ t, step (facing (.reset []) State.reset) = .next t) := by
  refine ⟨⟨by decide, _, rfl⟩, ⟨by decide, _, rfl⟩, ⟨⟨_, rfl⟩, by decide, _, rfl⟩, ⟨⟨_, rfl⟩, ⟨_, rfl⟩, ?_⟩,
    ⟨⟨_, rfl⟩, ⟨_, rfl⟩, ?_⟩, ⟨_, rfl⟩, _, rfl⟩
  · intro i h
    have hd : decode 0x04C48000 = .ok (.add 3 1 2) := by decide
    cases hd.symm.trans h
    unfold Ready
    decide
  · intro i h
    have hd : decode 0xFC000000 = .error .unassignedOpcode := by decide
    cases hd.symm.trans h

theorem witness_StatusWriteClearsFlags :
    0x107 % 256 / 4 = 1 ∧
    (facing (.access (.write 0x107 32 2)) flagged).pending = .access (.write 0x107 32 2) :: [] := by decide

/-- Every clause, at both ends of the window of the registers and at the reserved offsets beside it. -/
theorem witness_HostReadsFollowThePortMap :
    (facing (.access (.read 0x07F 32)) (machine 1 2 4)).pending = .access (.read 0x07F 32) :: [] ∧
    0x007 % 256 / 4 = 1 ∧ 0x040 % 256 / 4 = 16 + (0 : Reg).val ∧ 0x07F % 256 / 4 = 16 + (15 : Reg).val ∧
    (machine 1 2 4).isWritten 1 = true ∧ (machine 1 2 4).isWritten 15 = false ∧
    (0x03F % 256 / 4 ≠ 1 ∧ ¬(16 ≤ 0x03F % 256 / 4 ∧ 0x03F % 256 / 4 < 32)) ∧
    (0x080 % 256 / 4 ≠ 1 ∧ ¬(16 ≤ 0x080 % 256 / 4 ∧ 0x080 % 256 / 4 < 32)) := by decide

theorem witness_HostWritesFollowThePortMap :
    (facing (.access (.write 0x07F 32 9)) (machine 1 2 4)).pending = .access (.write 0x07F 32 9) :: [] ∧
    0x040 % 256 / 4 = 16 + (0 : Reg).val ∧ 0x07F % 256 / 4 = 16 + (15 : Reg).val ∧
    (2 ≤ 0x008 % 256 / 4 ∧ ¬(16 ≤ 0x008 % 256 / 4 ∧ 0x008 % 256 / 4 < 32)) ∧
    (2 ≤ 0x0FF % 256 / 4 ∧ ¬(16 ≤ 0x0FF % 256 / 4 ∧ 0x0FF % 256 / 4 < 32)) := by decide

theorem witness_OnlyWordAccessesAreTaken :
    (facing (.access (.read 0x044 8)) State.reset).pending = .access (.read 0x044 8) :: [] ∧
    (facing (.access (.write 0x044 32 7)) State.reset).pending = .access (.write 0x044 32 7) :: [] ∧
    (∃ offset, HostAccess.read 0x044 8 = .read offset 8 ∨ ∃ v, HostAccess.read 0x044 8 = .write offset 8 v) ∧
    (∃ offset, HostAccess.write 0x044 32 7 = .read offset 32 ∨ ∃ v, HostAccess.write 0x044 32 7 = .write offset 32 v) :=
  ⟨rfl, rfl, ⟨0x044, .inl rfl⟩, 0x044, .inr ⟨7, rfl⟩⟩

end Sys2Proof.Tests
end

/-! Facts about the decoder, the opcode map and the state after a command, for the statements of 30_encoding.md. -/

namespace Sys2Proof.Proofs

open Sys2Proof Sys2Proof.Machine Sys2Proof.Statements

/-! ### The opcode map (30_encoding.md R80) -/

theorem opcodeMap_ops_increasing : (opcodeMap.map OpRow.op).Pairwise (· < ·) := by decide

theorem opcodeMap_op_lt : ∀ r ∈ opcodeMap, r.op < 64 := by decide

/-- No two rows share an op. -/
theorem opcodeMap_row_eq_of_op_eq {q r : OpRow} (hq : q ∈ opcodeMap) (hr : r ∈ opcodeMap) (h : q.op = r.op) : q = r :=
  List.inj_on_of_nodup_map (opcodeMap_ops_increasing.imp Nat.ne_of_lt) hq hr h

/-! ### What it means for a row to select a word -/

/-- Every class mask keeps the opcode field (R75). -/
theorem opField_and_mask (w : Word) (c : OperandClass) : opField (w &&& c.mask) = opField w := by
  have hmask : opField c.mask = BitVec.allOnes 6 := by cases c <;> rfl
  calc opField (w &&& c.mask) = opField w &&& opField c.mask := BitVec.extractLsb'_and
    _ = opField w := by rw [hmask, BitVec.and_allOnes]

/-- The opcode field of a word that has only its opcode. -/
theorem opField_shiftLeft (op : BitVec 6) : opField (op.setWidth 32 <<< 26) = op := by
  ext i hi
  have : 26 + i < 32 := by omega
  simp [opField, this, hi, BitVec.getLsbD_eq_getElem]

/-- A row's match is its op in the opcode field and zeros below. -/
theorem matchWord_eq_shiftLeft {r : OpRow} (hr : r ∈ opcodeMap) :
    r.matchWord = (BitVec.ofNat 6 r.op).setWidth 32 <<< 26 := by
  have hop := opcodeMap_op_lt r hr
  apply BitVec.eq_of_toNat_eq
  simp only [OpRow.matchWord, BitVec.toNat_ofNat, BitVec.toNat_shiftLeft, BitVec.toNat_setWidth, Nat.shiftLeft_eq]
  omega

/-- A row selects a word exactly where the word's op is the row's and the word passes the decoder's check for the row's
class: the map's condition (R80) is the decoder's (R77). -/
theorem selects_iff {r : OpRow} (hr : r ∈ opcodeMap) (w : Word) :
    r.selects w = true ↔ (opField w).toNat = r.op ∧ w &&& r.cls.mask = (opField w).setWidth 32 <<< 26 := by
  have hop := opcodeMap_op_lt r hr
  rw [OpRow.selects, beq_iff_eq, matchWord_eq_shiftLeft hr]
  constructor
  · intro h
    have hf : opField w = BitVec.ofNat 6 r.op := by rw [← opField_and_mask w r.cls, h, opField_shiftLeft]
    refine ⟨?_, by rw [h, hf]⟩
    rw [hf, BitVec.toNat_ofNat, Nat.mod_eq_of_lt hop]
  · rintro ⟨hf, hm⟩
    rw [hm, ← hf, BitVec.ofNat_toNat, BitVec.setWidth_eq]

/-! ### What the decoder does (R77) -/

/-- A word with a row's op is that row's command, if it passes the check of the row's class. -/
theorem decode_of_op_eq {r : OpRow} (hr : r ∈ opcodeMap) {w : Word} (h : (opField w).toNat = r.op) :
    ∃ i, i.mnemonic = r.mnemonic ∧ decode w = checked w r.cls i := by
  fin_cases hr
  all_goals
    refine ⟨_, ?_, by rw [decode, h]; rfl⟩
    rfl

/-- A word with the op of no row is refused. -/
theorem decode_of_op_not_mem {w : Word} (h : (opField w).toNat ∉ opcodeMap.map OpRow.op) : ∃ e, decode w = .error e := by
  unfold decode
  split
  case h_26 => split <;> exact ⟨_, rfl⟩
  all_goals
    rename_i hop
    rw [hop] at h
    exact absurd (by decide) h

/-- A word that a row selects decodes to a command of that row. -/
theorem decode_of_selects {r : OpRow} (hr : r ∈ opcodeMap) {w : Word} (h : r.selects w = true) :
    ∃ i, decode w = .ok i ∧ i.mnemonic = r.mnemonic := by
  obtain ⟨hop, hmask⟩ := (selects_iff hr w).mp h
  obtain ⟨i, hi, hd⟩ := decode_of_op_eq hr hop
  exact ⟨i, by rw [hd, checked, if_pos hmask], hi⟩

/-- A word that no row selects is refused: its op is no row's, or its row's class check fails. -/
theorem decode_of_not_selects {w : Word} (h : ∀ r ∈ opcodeMap, r.selects w = false) : ∃ e, decode w = .error e := by
  by_cases hop : (opField w).toNat ∈ opcodeMap.map OpRow.op
  · obtain ⟨r, hr, hr_op⟩ := List.mem_map.mp hop
    have hmask : w &&& r.cls.mask ≠ (opField w).setWidth 32 <<< 26 := fun hm =>
      absurd ((selects_iff hr w).mpr ⟨hr_op.symm, hm⟩) (by simp [h r hr])
    obtain ⟨i, -, hd⟩ := decode_of_op_eq hr hr_op.symm
    exact ⟨_, by rw [hd, checked, if_neg hmask]⟩
  · exact decode_of_op_not_mem hop

theorem decode_encode_ldh (rd : Reg) (imm : Imm16) : decode (encode (.ldh rd imm)) = .ok (.ldh rd imm) := by
  simp [encode, decode, decodeImm, checked, formatI_mask_imm]

theorem decode_encode_ldl (rd : Reg) (imm : Imm16) : decode (encode (.ldl rd imm)) = .ok (.ldl rd imm) := by
  simp [encode, decode, decodeImm, checked, formatI_mask_imm]

/-! ### The state after a command -/

/-- A command whose sources are all written leaves no trace of its reads. -/
theorem noteReads_of_ready {s : State} {rs : List Reg} (h : Ready s rs) : s.noteReads rs = s := by
  simp [State.noteReads, State.uninitEvents_of_written s rs h]

/-- A record that gained a command's own events is the record after its reads. -/
theorem readsNoted_of_uninits_eq {s t : State} {rs : List Reg} (h : t.uninits = s.uninits ++ s.uninitEvents rs) :
    ReadsNoted s t rs where
  clean hw := by rw [h, State.uninitEvents_of_written s rs hw, List.append_nil]
  noted r hr hw := by rw [h]; exact List.mem_append_right _ ((s.mem_uninitEvents rs _).mpr ⟨r, hr, hw, rfl⟩)
  only e he := by
    rw [h, List.mem_append, State.mem_uninitEvents] at he
    exact he
  kept := h ▸ List.prefix_append ..

/-- A command that reads `rs` and then raises `c` traps, in the sense of the statements. -/
theorem trapped_noteReads_raise (s : State) (rs : List Reg) (c : Cause) : Trapped s ((s.noteReads rs).raise c) rs c where
  regs _ := rfl
  marks _ := rfl
  status k := by simp [setFlag_getLsbD]
  exceptions := rfl
  port := ⟨rfl, rfl, rfl, rfl⟩
  reads := readsNoted_of_uninits_eq rfl

/-! ### Steps at a write to CMD -/

/-- A word at CMD that decodes runs. -/
theorem step_cmdWrite_of_ok {s : State} {rest : List HostAction} {w : Word} {i : Instr} (hd : decode w = .ok i)
    (hp : s.pending = cmdWrite w :: rest) : step s = exec i (s.accept rest) := by
  rw [step_write_cmd rfl hp, issue, hd]

/-- A word at CMD that does not decode raises IllegalCommand. -/
theorem step_cmdWrite_of_error {s : State} {rest : List HostAction} {w : Word} {e : Illegal} (hd : decode w = .error e)
    (hp : s.pending = cmdWrite w :: rest) : step s = .next ((s.accept rest).raise .illegalCommand) := by
  rw [step_write_cmd rfl hp, issue, hd]

/-- An LDH at CMD writes its word to rd. -/
theorem step_ldh {s : State} {rest : List HostAction} {rd : Reg} {imm : Imm16}
    (hp : s.pending = cmdWrite (encode (.ldh rd imm)) :: rest) :
    step s = .next ((s.accept rest).writeReg rd (ldhWord imm)) := by
  rw [step_cmdWrite_of_ok (decode_encode_ldh rd imm) hp]
  rfl

/-- An LDL at CMD whose rd is written replaces the low half of rd. -/
theorem step_ldl {s : State} {rest : List HostAction} {rd : Reg} {imm : Imm16} (hw : s.isWritten rd = true)
    (hp : s.pending = cmdWrite (encode (.ldl rd imm)) :: rest) :
    step s = .next ((s.accept rest).writeReg rd (ldlWord (s.reg rd) imm)) := by
  have hready : Ready (s.accept rest) [rd] := by simpa [Ready] using hw
  rw [step_cmdWrite_of_ok (decode_encode_ldl rd imm) hp]
  simp [exec, execLdl, runS1, noteReads_of_ready hready]

end Sys2Proof.Proofs

/-! Every word is one row of the opcode map or illegal (30_encoding.md R78). -/

namespace Sys2Proof.Proofs

open Sys2Proof Sys2Proof.Machine Sys2Proof.Statements

/-- Two rows that select one word are one row, since both have its op. -/
theorem selects_unique {q r : OpRow} (hq : q ∈ opcodeMap) (hr : r ∈ opcodeMap) {w : Word} (hqw : q.selects w = true)
    (hrw : r.selects w = true) : q = r := by
  have hq_op := ((selects_iff hq w).mp hqw).1
  have hr_op := ((selects_iff hr w).mp hrw).1
  exact opcodeMap_row_eq_of_op_eq hq hr (hq_op.symm.trans hr_op)

/-- A step at a word that no row selects raises IllegalCommand and reads no register. -/
theorem step_traps_of_not_selects {w : Word} (h : ∀ r ∈ opcodeMap, r.selects w = false) {s : State}
    {rest : List HostAction} (hp : s.pending = cmdWrite w :: rest) :
    ∃ t, step s = .next t ∧ Trapped (s.accept rest) t [] .illegalCommand := by
  obtain ⟨e, hd⟩ := decode_of_not_selects h
  refine ⟨_, step_cmdWrite_of_error hd hp, ?_⟩
  simpa using trapped_noteReads_raise (s.accept rest) [] .illegalCommand

/-- Settles O4, by whether some row of the opcode map selects the word. -/
theorem everyWordIsOneRowOrIllegal : Obligations.EveryWordIsOneRowOrIllegal := by
  refine ⟨fun w => ?_, opcodeMap_ops_increasing⟩
  by_cases h : ∃ r ∈ opcodeMap, r.selects w = true
  · obtain ⟨r, hr, hrw⟩ := h
    exact .inl ⟨r, hr, hrw, fun q hq hqw => selects_unique hq hr hqw hrw, decode_of_selects hr hrw⟩
  · have hnone : ∀ r ∈ opcodeMap, r.selects w = false := by simpa using h
    exact .inr ⟨hnone, fun s rest hp => step_traps_of_not_selects hnone hp⟩

end Sys2Proof.Proofs

/-! The pseudo-instructions (30_encoding.md R87): each expands to an LDH of a high half, with or without an LDL of a low half
behind it, and what it leaves in rd is the two halves put together. -/

namespace Sys2Proof.Proofs

open Sys2Proof Sys2Proof.Machine Sys2Proof.Statements

/-! ### The words that LDH and LDL make of two halves -/

/-- An LDL over the word of an LDH puts the two halves together. -/
theorem append_eq_ldlWord_ldhWord (hi lo : Imm16) : hi ++ lo = ldlWord (ldhWord hi) lo := by
  ext i hlt
  simp only [ldlWord, ldhWord, BitVec.getElem_or, BitVec.getElem_and, BitVec.getElem_append, BitVec.getElem_setWidth]
  interval_cases i <;> simp [BitVec.getLsbD_eq_getElem]

/-- A word is its high half and its low half. -/
theorem halves_append (v : Word) : v.extractLsb' 16 16 ++ v.extractLsb' 0 16 = v := by
  ext i hi
  simp only [BitVec.getElem_append, BitVec.getElem_extractLsb']
  interval_cases i <;> simp [BitVec.getLsbD_eq_getElem]

/-- The integer `n` in a high half is `n` times 65536 (R74). -/
theorem ldhWord_ofInt (n : Int) : ldhWord (BitVec.ofInt 16 n) = BitVec.ofInt 32 (n * 65536) := by
  apply BitVec.eq_of_toNat_eq
  rw [ldhWord, BitVec.toNat_append]
  simp [Nat.shiftLeft_eq]
  omega

/-- An angle is its own low half. -/
theorem zero_append_ofNat {n : Nat} (h : n ≤ 4095) : (0 : Imm16) ++ BitVec.ofNat 16 n = BitVec.ofNat 32 n := by
  apply BitVec.eq_of_toNat_eq
  rw [BitVec.toNat_append]
  simp
  omega

/-! ### The expansions -/

theorem expandPseudo_li (rd : Reg) (v : Word) :
    expandPseudo (.li rd v) = .ldh rd (BitVec.ofNat 16 (v.toNat / 65536)) ::
      if v.toNat % 65536 = 0 then [] else [.ldl rd (BitVec.ofNat 16 v.toNat)] := by
  have hlow : v.extractLsb' 0 16 = BitVec.ofNat 16 v.toNat := by
    apply BitVec.eq_of_toNat_eq; simp
  have hhigh : v.extractLsb' 16 16 = BitVec.ofNat 16 (v.toNat / 65536) := by
    apply BitVec.eq_of_toNat_eq; simp [Nat.shiftRight_eq_div_pow]
  have hzero : BitVec.ofNat 16 v.toNat = 0 ↔ v.toNat % 65536 = 0 := by
    simp [← BitVec.toNat_inj]
  rw [expandPseudo, expandLi, hlow, hhigh]
  simp only [hzero]
  split <;> rfl

/-! ### Running an expansion -/

/-- From `s`, with only `actions` pending, running them leaves `v` in rd, nothing pending, and every other register, STATUS and
the records of exceptions and of unwritten reads as they were. -/
def Loads (actions : List HostAction) (rd : Reg) (v : Word) (s : State) : Prop :=
  ∃ t, Host.Core.run Sys2Proof.core actions.length { s with pending := actions } = .next t ∧
    t.reg rd = v ∧ (∀ r, r ≠ rd → t.reg r = s.reg r) ∧ t.status = s.status ∧ t.exceptions = s.exceptions ∧
    t.uninits = s.uninits ∧ t.pending = []

theorem loads_ldh (rd : Reg) (imm : Imm16) (s : State) :
    Loads [cmdWrite (encode (.ldh rd imm))] rd (ldhWord imm) s := by
  exact ⟨_, run_succ (step_ldh rfl) 0, State.reg_writeReg_self .., fun r hr => State.reg_writeReg_ne _ _ hr,
    rfl, rfl, rfl, rfl⟩

/-- The LDH marks rd written, so the LDL behind it reads a written register whatever the state was. -/
theorem loads_ldh_ldl (rd : Reg) (hi lo : Imm16) (s : State) :
    Loads [cmdWrite (encode (.ldh rd hi)), cmdWrite (encode (.ldl rd lo))] rd (hi ++ lo) s := by
  refine ⟨_, (run_succ (step_ldh rfl) 1).trans (run_succ (step_ldl (State.isWritten_writeReg_self ..) rfl) 0), ?_⟩
  refine ⟨?_, fun r hr => ?_, rfl, rfl, rfl, rfl⟩
  · rw [State.reg_writeReg_self, State.reg_writeReg_self, append_eq_ldlWord_ldhWord]
  · rw [State.reg_writeReg_ne _ _ hr, State.reg_accept, State.reg_writeReg_ne _ _ hr]
    rfl

theorem loads_li (rd : Reg) (v : Word) (s : State) : Loads (lineActions (.pseudo (.li rd v))) rd v s := by
  rw [lineActions, expandPseudo, expandLi]
  split
  case isTrue hlow =>
    have hv : ldhWord (v.extractLsb' 16 16) = v :=
      calc ldhWord (v.extractLsb' 16 16) = v.extractLsb' 16 16 ++ v.extractLsb' 0 16 := by rw [hlow]; rfl
        _ = v := halves_append v
    have hrun := loads_ldh rd (v.extractLsb' 16 16) s
    rw [hv] at hrun
    exact hrun
  case isFalse =>
    have hrun := loads_ldh_ldl rd (v.extractLsb' 16 16) (v.extractLsb' 0 16) s
    rw [halves_append] at hrun
    exact hrun

theorem loads_fromint (rd : Reg) (n : Int) (s : State) :
    Loads (lineActions (.pseudo (.fromint rd n))) rd (BitVec.ofInt 32 (n * 65536)) s :=
  ldhWord_ofInt n ▸ loads_ldh rd (BitVec.ofInt 16 n) s

theorem loads_liang (rd : Reg) {n : Nat} (h : n ≤ 4095) (s : State) :
    Loads (lineActions (.pseudo (.liang rd n))) rd (BitVec.ofNat 32 n) s :=
  zero_append_ofNat h ▸ loads_ldh_ldl rd 0 (BitVec.ofNat 16 n) s

/-- Settles O43, by the three pseudo-instructions. -/
theorem pseudoInstructionsMeanWhatTheySay : Obligations.PseudoInstructionsMeanWhatTheySay := by
  refine ⟨expandPseudo_li, fun _ _ => rfl, fun _ _ => rfl, ?_⟩
  rintro p rd v s (rfl | ⟨n, -, -, rfl, rfl⟩ | ⟨n, hn, rfl, rfl⟩)
  · exact loads_li rd v s
  · exact loads_fromint rd n s
  · exact loads_liang rd hn s

end Sys2Proof.Proofs

/-! Facts shared by the result statements: the rows of the opcode map by operand class, and the state after a command of each
class. -/

namespace Sys2Proof.Proofs

open Sys2Proof Sys2Proof.Machine Sys2Proof.Statements

/-! ### Rows of the opcode map, operands in their fields (30_encoding.md R71, R75, R80) -/

/-- A register field cut out of the word is the one read by division. -/
theorem toFin_extractLsb'_eq_fieldAt (w : Word) (lo : Nat) : (w.extractLsb' lo 4).toFin = fieldAt w lo := by
  ext
  simp [fieldAt, Nat.shiftRight_eq_div_pow]

/-- A word with a row's match under its mask has the row's op and passes the check of the row's class. -/
theorem op_eq_and_checked_of_match {r : OpRow} (hr : r ∈ opcodeMap) {w : Word} (hw : w &&& r.cls.mask = r.matchWord) :
    (opField w).toNat = r.op ∧ ∀ i, checked w r.cls i = .ok i := by
  obtain ⟨hop, hmask⟩ := (selects_iff hr w).mp (beq_iff_eq.mpr hw)
  exact ⟨hop, fun i => by rw [checked, if_pos hmask]⟩

theorem rowS1_of_decode {n : String} {op : Nat} {mk : Reg → Reg → Instr} (hr : ⟨n, op, .s1⟩ ∈ opcodeMap)
    (hd : ∀ w, (opField w).toNat = op → decode w = decodeS1 w mk) : RowS1 (OpRow.matchWord ⟨n, op, .s1⟩) mk := by
  intro w hw
  obtain ⟨hop, hchecked⟩ := op_eq_and_checked_of_match hr hw
  rw [hd w hop, decodeS1, hchecked]
  simp only [rdField, rs1Field, toFin_extractLsb'_eq_fieldAt]

theorem rowS2_of_decode {n : String} {op : Nat} {mk : Reg → Reg → Reg → Instr} (hr : ⟨n, op, .s2⟩ ∈ opcodeMap)
    (hd : ∀ w, (opField w).toNat = op → decode w = decodeS2 w mk) : RowS2 (OpRow.matchWord ⟨n, op, .s2⟩) mk := by
  intro w hw
  obtain ⟨hop, hchecked⟩ := op_eq_and_checked_of_match hr hw
  rw [hd w hop, decodeS2, hchecked]
  simp only [rdField, rs1Field, rs2Field, toFin_extractLsb'_eq_fieldAt]

theorem rowS3_of_decode {n : String} {op : Nat} {mk : Reg → Reg → Reg → Reg → Instr} (hr : ⟨n, op, .s3⟩ ∈ opcodeMap)
    (hd : ∀ w, (opField w).toNat = op → decode w = decodeS3 w mk) : RowS3 (OpRow.matchWord ⟨n, op, .s3⟩) mk := by
  intro w hw
  obtain ⟨hop, hchecked⟩ := op_eq_and_checked_of_match hr hw
  rw [hd w hop, decodeS3, hchecked]
  simp only [rdField, rs1Field, rs2Field, rs3Field, toFin_extractLsb'_eq_fieldAt]

/-! ### The state after a command of a class -/

/-- A command that reads `rs` and then writes `v` to rd has written it, in the sense of the statements. -/
theorem wrote_noteReads_writeReg (s : State) (rs : List Reg) (rd : Reg) (v : Word) :
    Wrote s ((s.noteReads rs).writeReg rd v) rs rd v where
  value := State.reg_writeReg_self ..
  marked := State.isWritten_writeReg_self ..
  otherRegs _ hr := State.reg_writeReg_ne _ v hr
  otherMarks _ hr := State.isWritten_writeReg_ne _ v hr
  status := rfl
  exceptions := rfl
  port := ⟨rfl, rfl, rfl, rfl⟩
  reads := readsNoted_of_uninits_eq rfl

theorem runS1_wrote {rd a : Reg} {f : Word → Option Word} {s : State} {v : Word} (h : f (s.reg a) = some v) :
    ∃ t, runS1 rd a f s = .next t ∧ Wrote s t [a] rd v :=
  ⟨_, by rw [runS1, h, State.finish_some], wrote_noteReads_writeReg ..⟩

theorem runS2_wrote {rd a b : Reg} {f : Word → Word → Option Word} {s : State} {v : Word}
    (h : f (s.reg a) (s.reg b) = some v) : ∃ t, runS2 rd a b f s = .next t ∧ Wrote s t [a, b] rd v :=
  ⟨_, by rw [runS2, h, State.finish_some], wrote_noteReads_writeReg ..⟩

theorem runS2_trapped {rd a b : Reg} {f : Word → Word → Option Word} {s : State} (h : f (s.reg a) (s.reg b) = none) :
    ∃ t, runS2 rd a b f s = .next t ∧ Trapped s t [a, b] .divideByZero :=
  ⟨_, by rw [runS2, h, State.finish_none], trapped_noteReads_raise ..⟩

theorem runS3_wrote {rd a b c : Reg} {f : Word → Word → Word → Option Word} {s : State} {v : Word}
    (h : f (s.reg a) (s.reg b) (s.reg c) = some v) : ∃ t, runS3 rd a b c f s = .next t ∧ Wrote s t [a, b, c] rd v :=
  ⟨_, by rw [runS3, h, State.finish_some], wrote_noteReads_writeReg ..⟩

/-- A command of class S1 whose meaning is `g`, which is `f`, writes `f` of its source. -/
theorem writesS1_of_run {mk : Reg → Reg → Instr} {f g : Word → Word}
    (hexec : ∀ rd a s, exec (mk rd a) s = runS1 rd a (fun x => some (g x)) s) (h : ∀ x, g x = f x) : WritesS1 mk f := by
  intro rd a s _
  rw [hexec]
  exact runS1_wrote (by rw [h])

/-- A command of class S2 whose meaning is `g`, which is `f`, writes `f` of its sources. -/
theorem writesS2_of_run {mk : Reg → Reg → Reg → Instr} {f g : Word → Word → Word}
    (hexec : ∀ rd a b s, exec (mk rd a b) s = runS2 rd a b (fun x y => some (g x y)) s) (h : ∀ x y, g x y = f x y) :
    WritesS2 mk f := by
  intro rd a b s _
  rw [hexec]
  exact runS2_wrote (by rw [h])

/-- A command of class S3 whose meaning is `g`, which is `f`, writes `f` of its sources. -/
theorem writesS3_of_run {mk : Reg → Reg → Reg → Reg → Instr} {f g : Word → Word → Word → Word}
    (hexec : ∀ rd a b c s, exec (mk rd a b c) s = runS3 rd a b c (fun x y z => some (g x y z)) s)
    (h : ∀ x y z, g x y z = f x y z) : WritesS3 mk f := by
  intro rd a b c s _
  rw [hexec]
  exact runS3_wrote (by rw [h])

end Sys2Proof.Proofs

/-! The Q16.16 scalar arithmetic (40_q16_arith.md): what each primitive computes, over the integers and the exact rationals. -/

namespace Sys2Proof.Proofs

open Sys2Proof Sys2Proof.Machine Sys2Proof.Statements

/-! ### Products and quotients (R103 to R105) -/

/-- The arithmetic shift is the floor of the exact quotient. -/
theorem asr_eq_floor (v : Int) (n : Nat) : asr v n = ⌊(v : ℚ) / (2 ^ n : Nat)⌋ := by
  rw [Rat.floor_intCast_div_natCast, asr]
  norm_cast

theorem xmul_eq_floor (a b : Word) : xmul a b = BitVec.ofInt 32 ⌊(a.toInt * b.toInt : ℚ) / 65536⌋ := by
  rw [xmul, s32, asr_eq_floor]
  norm_num

/-- 1.0 is the multiplicative unit. -/
theorem xmul_one (a : Word) : xmul a 0x00010000 = a := by
  have hone : (0x00010000 : Word).toInt = 2 ^ 16 := by decide
  rw [xmul, asr, hone, Int.mul_ediv_cancel _ (by norm_num), s32, BitVec.ofInt_toInt]

/-- Dividing by 1.0 changes nothing. -/
theorem xdiv_one (a : Word) : xdiv a 0x00010000 = a := by
  have hone : (0x00010000 : Word).toInt = 65536 := by decide
  rw [xdiv, tdiv, hone, Int.mul_tdiv_cancel _ (by norm_num), s32, BitVec.ofInt_toInt]

theorem toInt_ne_zero {b : Word} (h : b ≠ 0) : b.toInt ≠ 0 := BitVec.toInt_ne.mpr h

/-- A nonzero word divided by itself is 1.0. -/
theorem xdiv_self {b : Word} (h : b ≠ 0) : xdiv b b = 0x00010000 := by
  rw [xdiv, tdiv, Int.mul_tdiv_cancel_left _ (toInt_ne_zero h)]
  rfl

/-- Where the divisor is not 0 the guarded remainder is the truncating one. -/
theorem modWords_of_ne (a : Word) {b : Word} (h : b ≠ 0) :
    modWords a b = some (BitVec.ofInt 32 (a.toInt.tmod b.toInt)) := by
  rw [modWords, if_neg h, trem_eq_tmod, s32]

/-- The guarded remainder has no result where the divisor is 0. -/
theorem modWords_zero (a : Word) : modWords a 0 = none := if_pos rfl

/-- A truncating remainder is smaller in magnitude than its divisor. -/
theorem natAbs_tmod_lt (n : Int) {d : Int} (h : d ≠ 0) : (n.tmod d).natAbs < d.natAbs := by
  rw [Int.natAbs_tmod]
  exact Nat.mod_lt _ (Int.natAbs_pos.mpr h)

/-- An integer smaller in magnitude than a word is not changed by the wrap. -/
theorem toInt_ofInt_of_natAbs_lt {v : Int} {b : Word} (h : v.natAbs < b.toInt.natAbs) : (BitVec.ofInt 32 v).toInt = v := by
  have hlow := b.le_toInt
  have hhigh := b.toInt_lt
  exact BitVec.toInt_ofInt_eq_self (by norm_num) (by omega) (by omega)

/-! ### Magnitude, minimum, maximum, clamp (R106 to R109) -/

theorem xabs_eq_ofNat_natAbs (a : Word) : xabs a = BitVec.ofNat 32 a.toInt.natAbs := by
  have h : a.toInt.natAbs = (xabs a).toNat := (xabs_toNat a).symm
  rw [h, BitVec.ofNat_toNat, BitVec.setWidth_eq]

theorem minWord_eq (a b : Word) : minWord a b = BitVec.ofInt 32 (min a.toInt b.toInt) := by
  unfold minWord
  split
  case isTrue h => rw [min_eq_left h.le, BitVec.ofInt_toInt]
  case isFalse h => rw [min_eq_right (not_lt.mp h), BitVec.ofInt_toInt]

theorem maxWord_eq (a b : Word) : maxWord a b = BitVec.ofInt 32 (max a.toInt b.toInt) := by
  unfold maxWord
  split
  case isTrue h => rw [max_eq_left (le_of_lt h), BitVec.ofInt_toInt]
  case isFalse h => rw [max_eq_right (not_lt.mp h), BitVec.ofInt_toInt]

/-- The comparison with lo comes first; where it fails, the result is the minimum of a and hi. -/
theorem clampWord_eq (a lo hi : Word) :
    clampWord a lo hi = if lo.toInt ≤ a.toInt then BitVec.ofInt 32 (min a.toInt hi.toInt) else lo := by
  unfold clampWord
  split
  case isTrue hlo => rw [if_neg (not_le.mpr hlo)]
  case isFalse hlo =>
    rw [if_pos (not_lt.mp hlo)]
    split
    case isTrue hhi => rw [min_eq_right (le_of_lt hhi), BitVec.ofInt_toInt]
    case isFalse hhi => rw [min_eq_left (not_lt.mp hhi), BitVec.ofInt_toInt]

/-! ### Rounding (R110 to R112) -/

/-- Clearing the 16 fraction bits commutes with the wrap, since 1.0 divides 2^32. -/
theorem xfloor_ofInt (v : Int) : xfloor (BitVec.ofInt 32 v) = BitVec.ofInt 32 (v / 65536 * 65536) := by
  apply BitVec.eq_of_toNat_eq
  rw [xfloor_toNat, BitVec.toNat_ofInt, BitVec.toNat_ofInt]
  omega

theorem xfloor_eq_floor (a : Word) : xfloor a = BitVec.ofInt 32 (⌊(a.toInt : ℚ) / 65536⌋ * 65536) := by
  have h : ⌊(a.toInt : ℚ) / 65536⌋ = a.toInt / 65536 := Rat.floor_intCast_div_natCast a.toInt 65536
  rw [h, ← xfloor_ofInt, BitVec.ofInt_toInt]

/-- Adding 0xFFFF before the fraction bits are cleared rounds up. -/
theorem add_and_mask_eq_ceil (a : Word) :
    (a + 0xFFFF) &&& 0xFFFF0000 = BitVec.ofInt 32 (⌈(a.toInt : ℚ) / 65536⌉ * 65536) := by
  have hceil : ⌈(a.toInt : ℚ) / 65536⌉ = -(-a.toInt / 65536) := Rat.ceil_intCast_div_natCast a.toInt 65536
  have hint : (a.toInt + 65535) / 65536 = -(-a.toInt / 65536) := by omega
  calc (a + 0xFFFF) &&& 0xFFFF0000 = xfloor (xadd a 0xFFFF) := by rw [xadd_eq_add, xfloor]
    _ = BitVec.ofInt 32 ((a.toInt + 65535) / 65536 * 65536) := xfloor_ofInt _
    _ = BitVec.ofInt 32 (⌈(a.toInt : ℚ) / 65536⌉ * 65536) := by rw [hint, hceil]

theorem fraction_eq_zero_iff (a : Word) : a.extractLsb' 0 16 = 0 ↔ a.toNat % 65536 = 0 := by
  simp [← BitVec.toNat_inj]

/-- CEIL adds 1.0 to the floor unless the fraction is 0, which is adding 0xFFFF before the fraction bits are cleared. -/
theorem ceilWord_eq_add_and_mask (a : Word) : ceilWord a = (a + 0xFFFF) &&& 0xFFFF0000 := by
  have hsum : (a + 0xFFFF) &&& 0xFFFF0000 = xfloor (a + 0xFFFF) := rfl
  apply BitVec.eq_of_toNat_eq
  simp only [hsum, xfloor_toNat, ceilWord, fraction_eq_zero_iff, Config.xint1]
  split
  case isTrue hfrac =>
    simp only [BitVec.toNat_add, BitVec.ofNat_eq_ofNat, BitVec.toNat_ofNat]
    omega
  case isFalse hfrac =>
    simp only [xadd_eq_add, BitVec.toNat_add, BitVec.ofNat_eq_ofNat, BitVec.toNat_ofNat, xfloor_toNat]
    omega

/-- Adding half a unit before the fraction bits are cleared is the floor of a + 1/2. -/
theorem roundWord_eq_floor (a : Word) :
    roundWord a = BitVec.ofInt 32 (⌊(a.toInt : ℚ) / 65536 + 1 / 2⌋ * 65536) := by
  have hhalf : (a.toInt : ℚ) / 65536 + 1 / 2 = ((a.toInt + 32768 : Int) : ℚ) / (65536 : Nat) := by
    push_cast
    ring
  rw [hhalf, Rat.floor_intCast_div_natCast]
  exact xfloor_ofInt (a.toInt + 32768)

/-! ### Interpolation (R113) -/

theorem lerpWord_eq_floor (a b t : Word) :
    lerpWord a b t = BitVec.ofInt 32
      (a.toInt + ⌊((BitVec.ofInt 32 (b.toInt - a.toInt)).toInt * t.toInt : ℚ) / 65536⌋) := by
  rw [lerpWord, xadd_eq_add, xmul_eq_floor, BitVec.ofInt_add, BitVec.ofInt_toInt]
  rfl

/-- At t = 1.0 the wrapped difference is added back whole. -/
theorem lerpWord_one (a b : Word) : lerpWord a b 0x00010000 = b := by
  rw [lerpWord, xmul_one, xadd_eq_add, xsub_eq_sub, add_sub_cancel]

end Sys2Proof.Proofs

/-! The statements of 40_q16_arith.md: each command's row of the opcode map, and what it writes or that it traps. -/

namespace Sys2Proof.Proofs

open Sys2Proof Sys2Proof.Machine Sys2Proof.Statements

/-- Settles O8. -/
theorem addWritesTheWrappedSum : Obligations.AddWritesTheWrappedSum :=
  ⟨rowS2_of_decode (n := "ADD") (op := 0x01) (by decide) fun w h => by simp only [decode, h],
    writesS2_of_run (g := xadd) (fun _ _ _ _ => rfl) fun _ _ => rfl⟩

/-- Settles O9. -/
theorem subWritesTheWrappedDifference : Obligations.SubWritesTheWrappedDifference :=
  ⟨rowS2_of_decode (n := "SUB") (op := 0x02) (by decide) fun w h => by simp only [decode, h],
    writesS2_of_run (g := xsub) (fun _ _ _ _ => rfl) fun _ _ => rfl⟩

/-- Settles O10: the arithmetic shift of the exact product is its floor. -/
theorem mulWritesTheFlooredProduct : Obligations.MulWritesTheFlooredProduct :=
  ⟨rowS2_of_decode (n := "MUL") (op := 0x03) (by decide) fun w h => by simp only [decode, h],
    writesS2_of_run (fun _ _ _ _ => rfl) xmul_eq_floor⟩

/-- Settles O11, by whether the divisor is 0. -/
theorem divWritesTheQuotientOrTraps : Obligations.DivWritesTheQuotientOrTraps := by
  refine ⟨rowS2_of_decode (n := "DIV") (op := 0x04) (by decide) fun w h => by simp only [decode, h],
    fun rd a b s _ => ⟨fun hb => ?_, fun hb => ?_⟩⟩
  · obtain ⟨t, hexec, hwrote⟩ := runS2_wrote (rd := rd) (xdivGuarded_of_ne (s.reg a) hb)
    refine ⟨t, hexec, hwrote, fun hab => ?_⟩
    rw [hwrote.value, hab, xdiv_self hb]
  · exact runS2_trapped ((xdivGuarded_eq_none_iff _ _).mpr hb)

/-- Settles O12, by whether the divisor is 0; the remainder is too small in magnitude for the wrap to change it. -/
theorem modWritesTheRemainderOrTraps : Obligations.ModWritesTheRemainderOrTraps := by
  refine ⟨rowS2_of_decode (n := "MOD") (op := 0x05) (by decide) fun w h => by simp only [decode, h],
    fun rd a b s _ => ⟨fun hb => ?_, fun hb => ?_⟩⟩
  · obtain ⟨t, hexec, hwrote⟩ := runS2_wrote (rd := rd) (modWords_of_ne (s.reg a) hb)
    have hlt := natAbs_tmod_lt (s.reg a).toInt (toInt_ne_zero hb)
    refine ⟨t, hexec, hwrote, ?_⟩
    rwa [hwrote.value, toInt_ofInt_of_natAbs_lt hlt]
  · exact runS2_trapped (by rw [hb, modWords_zero])

/-- Settles O13. -/
theorem absWritesTheWrappedMagnitude : Obligations.AbsWritesTheWrappedMagnitude :=
  ⟨rowS1_of_decode (n := "ABS") (op := 0x06) (by decide) fun w h => by simp only [decode, h],
    writesS1_of_run (fun _ _ _ => rfl) xabs_eq_ofNat_natAbs⟩

/-- Settles O14. -/
theorem minWritesTheSignedMinimum : Obligations.MinWritesTheSignedMinimum :=
  ⟨rowS2_of_decode (n := "MIN") (op := 0x07) (by decide) fun w h => by simp only [decode, h],
    writesS2_of_run (fun _ _ _ _ => rfl) minWord_eq⟩

/-- Settles O15. -/
theorem maxWritesTheSignedMaximum : Obligations.MaxWritesTheSignedMaximum :=
  ⟨rowS2_of_decode (n := "MAX") (op := 0x08) (by decide) fun w h => by simp only [decode, h],
    writesS2_of_run (fun _ _ _ _ => rfl) maxWord_eq⟩

/-- Settles O16. -/
theorem clampComparesLowFirst : Obligations.ClampComparesLowFirst :=
  ⟨rowS3_of_decode (n := "CLAMP") (op := 0x09) (by decide) fun w h => by simp only [decode, h],
    writesS3_of_run (fun _ _ _ _ _ => rfl) clampWord_eq⟩

/-- Settles O17. -/
theorem floorRoundsTowardMinusInfinity : Obligations.FloorRoundsTowardMinusInfinity :=
  ⟨rowS1_of_decode (n := "FLOOR") (op := 0x0A) (by decide) fun w h => by simp only [decode, h],
    writesS1_of_run (fun _ _ _ => rfl) xfloor_eq_floor⟩

/-- Settles O18: the command is the masked sum, and the masked sum is the ceiling. -/
theorem ceilRoundsTowardPlusInfinity : Obligations.CeilRoundsTowardPlusInfinity :=
  ⟨rowS1_of_decode (n := "CEIL") (op := 0x0B) (by decide) fun w h => by simp only [decode, h],
    writesS1_of_run (fun _ _ _ => rfl) fun x => (ceilWord_eq_add_and_mask x).trans (add_and_mask_eq_ceil x),
    writesS1_of_run (fun _ _ _ => rfl) ceilWord_eq_add_and_mask⟩

/-- Settles O19. -/
theorem roundSendsHalvesUp : Obligations.RoundSendsHalvesUp :=
  ⟨rowS1_of_decode (n := "ROUND") (op := 0x0C) (by decide) fun w h => by simp only [decode, h],
    writesS1_of_run (fun _ _ _ => rfl) roundWord_eq_floor⟩

/-- Settles O20; at t = 1.0 the wrapped steps cancel. -/
theorem lerpInterpolatesWithWrappedSteps : Obligations.LerpInterpolatesWithWrappedSteps := by
  have hwrites := writesS3_of_run (mk := .lerp) (fun _ _ _ _ _ => rfl) lerpWord_eq_floor
  refine ⟨rowS3_of_decode (n := "LERP") (op := 0x0D) (by decide) fun w h => by simp only [decode, h], hwrites,
    fun rd a b t s u hready ht hu => ?_⟩
  obtain ⟨v, hv, hwrote⟩ := hwrites rd a b t s hready
  obtain rfl : v = u := by simpa [hv] using hu
  calc v.reg rd = lerpWord (s.reg a) (s.reg b) (s.reg t) := by rw [hwrote.value, lerpWord_eq_floor]
    _ = s.reg b := by rw [ht, lerpWord_one]

/-- Settles O21. -/
theorem scalarIdentities : Obligations.ScalarIdentities := by
  refine fun a b => ⟨?_, xmul_one a, xdiv_one a, by rw [xmul_one, xdiv_one]⟩
  rw [xsub_eq_sub, xadd_eq_add, add_sub_cancel_right]

end Sys2Proof.Proofs

/-! The angle wrap and the table commands (41_angle_trig.md R141 to R149): what each computes from its operand. -/

namespace Sys2Proof.Proofs

open Sys2Proof Sys2Proof.Machine Sys2Proof.Statements

/-! ### The angle wrap (R141, R142) -/

/-- The low 12 bits, extended with zeros, are the angle modulo 4096. -/
theorem awrap_eq_extract (a : Word) : awrap a = (a.extractLsb' 0 12).setWidth 32 := by
  apply BitVec.eq_of_toNat_eq
  rw [awrap_toNat, BitVec.toNat_setWidth, BitVec.extractLsb'_toNat]
  omega

/-- A mask of 12 ones keeps the angle modulo 4096. -/
theorem awrap_eq_and_mask (a : Word) : awrap a = a &&& 0x00000FFF := by
  apply BitVec.eq_of_toNat_eq
  rw [awrap_toNat, BitVec.toNat_and]
  exact (Nat.and_two_pow_sub_one_eq_mod a.toNat 12).symm

/-- 4096 divides 2^32, so the wrap of a sum to 32 bits is not seen modulo 4096. -/
theorem awrap_add_toNat (a b : Word) : (awrap (a + b)).toNat = (a.toNat % 4096 + b.toNat) % 4096 := by
  rw [awrap_toNat, BitVec.toNat_add]
  omega

/-- A whole turn more is the same angle. -/
theorem awrap_add_turn (a : Word) : awrap (a + 4096) = awrap a := by
  apply BitVec.eq_of_toNat_eq
  have hturn : (4096 : Word).toNat = 4096 := rfl
  rw [awrap_add_toNat, awrap_toNat, hturn]
  omega

/-! ### The table commands (R143, R144, R149) -/

theorem sinWord_eq (a : Word) : sinWord a = sinLut (a.toNat % 4096) := by
  rw [sinWord, awrap_toNat]

/-- The cosine is the sine a quarter turn on, folded again. -/
theorem cosWord_eq (a : Word) : cosWord a = sinLut ((a.toNat % 4096 + 1024) % 4096) := by
  rw [cosWord, xadd_eq_add, awrap_add_toNat]
  rfl

/-- 2048 divides 4096, so the fold to a full turn is not seen by the fold to a half turn. -/
theorem tanWord_eq (a : Word) : tanWord a = tanLut (a.toNat % 2048) := by
  rw [tanWord, awrap_toNat, Nat.mod_mod_of_dvd _ (by norm_num)]

end Sys2Proof.Proofs

/-! The statements of 41_angle_trig.md about the angle wrap and the commands that use it: each command's row of the opcode map,
and what it writes. -/

namespace Sys2Proof.Proofs

open Sys2Proof Sys2Proof.Machine Sys2Proof.Statements

/-- Settles O22. -/
theorem angleWrapIsTheLowTwelveBits : Obligations.AngleWrapIsTheLowTwelveBits :=
  ⟨fun a => ⟨awrap_toNat a, awrap_eq_extract a, awrap_add_turn a, awrap_lt a⟩, by decide, by decide⟩

/-- Settles O23. -/
theorem awrapWritesTheFoldedAngle : Obligations.AwrapWritesTheFoldedAngle :=
  ⟨rowS1_of_decode (n := "AWRAP") (op := 0x10) (by decide) fun w h => by simp only [decode, h],
    writesS1_of_run (fun _ _ _ => rfl) awrap_eq_and_mask⟩

/-- Settles O24. -/
theorem sinReadsTheSineTable : Obligations.SinReadsTheSineTable :=
  ⟨rowS1_of_decode (n := "SIN") (op := 0x11) (by decide) fun w h => by simp only [decode, h],
    writesS1_of_run (fun _ _ _ => rfl) sinWord_eq, by decide⟩

/-- Settles O25: the sum wraps to 32 bits before it is folded, which the fold does not see. -/
theorem cosReadsTheSineTableAQuarterTurnOn : Obligations.CosReadsTheSineTableAQuarterTurnOn :=
  ⟨rowS1_of_decode (n := "COS") (op := 0x12) (by decide) fun w h => by simp only [decode, h],
    writesS1_of_run (fun _ _ _ => rfl) cosWord_eq⟩

/-- Settles O26; the four named entries are read off the table. -/
theorem tanReadsTheTangentTable : Obligations.TanReadsTheTangentTable :=
  ⟨rowS1_of_decode (n := "TAN") (op := 0x13) (by decide) fun w h => by simp only [decode, h],
    writesS1_of_run (fun _ _ _ => rfl) tanWord_eq, by decide, by decide, by decide, by decide⟩

end Sys2Proof.Proofs

/-! The inverse trigonometric approximator (42_inverse_trig.md R171 to R177): when atan2f has a result and which, its ratio where
no sum wraps, the cubic over the exact integers, and the cases of ACOS. -/

namespace Sys2Proof.Proofs

open Sys2Proof Sys2Proof.Machine Sys2Proof.Statements

/-! ### The wrap over the integers (00_scope.md R9) -/

theorem toInt_s32 (v : Int) : (s32 v).toInt = wrapped v := by
  rw [s32, BitVec.toInt_ofInt, Int.bmod_def, wrapped]
  split <;> omega

/-- The shift of a word is a word, so the wrap does not change it. -/
theorem toInt_s32_asr (a : Word) : (s32 (asr a.toInt 16)).toInt = a.toInt / 65536 := by
  have hlow := a.le_toInt
  have hhigh := a.toInt_lt
  rw [toInt_s32, asr, wrapped]
  omega

theorem toInt_xmul (a b : Word) : (xmul a b).toInt = wrapped (a.toInt * b.toInt / 65536) := by
  rw [xmul, toInt_s32, asr]
  rfl

/-! ### The cubic (R172) -/

theorem toInt_atanPoly (r : Word) :
    (atanPoly r).toInt =
      wrapped (wrapped (128 * wrapped (wrapped (r.toInt * r.toInt / 65536) * r.toInt / 65536) - 640 * r.toInt) + 0x8000)
        / 65536 := by
  rw [atanPoly, toInt_s32_asr, toInt_s32, toInt_s32, toInt_xmul, toInt_xmul]

/-! ### The numerator and the denominator of atan2f (R171) -/

/-- |y| in the words' own negation. -/
theorem xabs_eq_ite_neg (a : Word) : xabs a = if a.toInt < 0 then -a else a := by
  rw [xabs, s32, BitVec.ofInt_neg, BitVec.ofInt_toInt]

theorem atan2Num_eq (ay x : Word) : atan2Num ay x = if 0 ≤ x.toInt then x - ay else x + ay := by
  rw [atan2Num, xsub_eq_sub, xadd_eq_add]

theorem atan2Den_eq (ay x : Word) : atan2Den ay x = if 0 ≤ x.toInt then x + ay else ay - x := by
  rw [atan2Den, xsub_eq_sub, xadd_eq_add]

theorem toInt_eq_zero_iff (a : Word) : a.toInt = 0 ↔ a = 0 := by
  rw [← BitVec.toInt_inj, BitVec.ofNat_eq_ofNat, BitVec.toInt_zero]

theorem absMath_eq_zero_iff (a : Word) : absMath a = 0 ↔ a = 0 := by
  rw [absMath, Int.natAbs_eq_zero, toInt_eq_zero_iff]

/-- |y| is at most 2^31, and is 2^31 only for the most negative word. -/
theorem absMath_le_and_eq_iff (a : Word) : absMath a ≤ 2 ^ 31 ∧ (absMath a = 2 ^ 31 ↔ a = 0x80000000) := by
  have hlow := a.le_toInt
  have hhigh := a.toInt_lt
  have hmin : (0x80000000 : Word).toInt = -2 ^ 31 := by decide
  rw [← BitVec.toInt_inj, hmin, absMath]
  omega

/-- For x >= 0 the denominator is a sum of magnitudes below 2^32, so it is 0 at the origin only; for x < 0 it is 0 where |y| and
x are one word, and that is 0x80000000. -/
theorem atan2Den_eq_zero_iff {y x : Word} (h : ¬(y = 0 ∧ x = 0)) :
    atan2Den (xabs y) x = 0 ↔ y = 0x80000000 ∧ x = 0x80000000 := by
  obtain ⟨hle, hmin⟩ := absMath_le_and_eq_iff y
  have hay := xabs_toNat y
  have hx := x.isLt
  have hsign := BitVec.toInt_eq_toNat_cond x
  rw [← absMath_eq_zero_iff, ← BitVec.toNat_inj (x := x)] at h
  rw [← hmin, ← BitVec.toNat_inj (x := x), atan2Den_eq]
  split
  case isTrue hpos =>
    rw [← BitVec.toNat_inj, BitVec.toNat_add, hay]
    simp only [BitVec.ofNat_eq_ofNat, BitVec.toNat_ofNat] at h ⊢
    split at hsign <;> omega
  case isFalse hneg =>
    rw [sub_eq_zero, ← BitVec.toNat_inj, hay]
    simp only [BitVec.ofNat_eq_ofNat, BitVec.toNat_ofNat]
    split at hsign <;> omega

/-! ### The ratio of atan2f where no sum wraps (R171) -/

/-- The ratio r of R171. -/
def atan2Ratio (y x : Word) : Word := xdiv (atan2Num (xabs y) x) (atan2Den (xabs y) x)

theorem toInt_xabs {a : Word} (h : a.toInt.natAbs < 2 ^ 31) : (xabs a).toInt = a.toInt.natAbs := by
  have hnat : (xabs a).toNat = a.toInt.natAbs := xabs_toNat a
  rw [BitVec.toInt_eq_toNat_of_lt (by omega), hnat]

theorem toInt_atan2Num {y x : Word} (h : y.toInt.natAbs + x.toInt.natAbs < 2 ^ 31) :
    (atan2Num (xabs y) x).toInt =
      if 0 ≤ x.toInt then x.toInt - y.toInt.natAbs else x.toInt + y.toInt.natAbs := by
  rw [atan2Num, xadd, xsub, toInt_xabs (by omega)]
  split <;> rw [toInt_s32, wrapped] <;> omega

theorem toInt_atan2Den {y x : Word} (h : y.toInt.natAbs + x.toInt.natAbs < 2 ^ 31) :
    (atan2Den (xabs y) x).toInt = y.toInt.natAbs + x.toInt.natAbs := by
  rw [atan2Den, xadd, xsub, toInt_xabs (by omega)]
  split <;> rw [toInt_s32, wrapped] <;> omega

/-- |num| <= |den|, so the exact ratio is at most 1.0 in magnitude and the wrap does not change it. -/
theorem toInt_atan2Ratio_bounds {y x : Word} (h : y.toInt.natAbs + x.toInt.natAbs < 2 ^ 31) :
    -65536 ≤ (atan2Ratio y x).toInt ∧ (atan2Ratio y x).toInt ≤ 65536 := by
  have hle : (atan2Num (xabs y) x).toInt.natAbs ≤ (atan2Den (xabs y) x).toInt.natAbs := by
    rw [toInt_atan2Num h, toInt_atan2Den h]
    split <;> omega
  have hquot : (Int.tdiv ((atan2Num (xabs y) x).toInt * 65536) (atan2Den (xabs y) x).toInt).natAbs ≤ 65536 := by
    rw [Int.natAbs_tdiv, Int.natAbs_mul]
    exact Nat.div_le_of_le_mul (Nat.mul_le_mul_right _ hle)
  rw [atan2Ratio, xdiv, tdiv, toInt_s32, wrapped]
  omega

/-- A positive factor does not change a sign. -/
theorem nonneg_iff_of_mul_eq {m n : Nat} (hm : 0 < m) (hn : 0 < n) {a b : Int} (h : m * a = n * b) : 0 ≤ a ↔ 0 ≤ b := by
  rw [← mul_nonneg_iff_of_pos_left (Int.natCast_pos.mpr hm), h, mul_nonneg_iff_of_pos_left (Int.natCast_pos.mpr hn)]

theorem eq_zero_iff_of_mul_eq {m n : Nat} (hm : 0 < m) (hn : 0 < n) {a b : Int} (h : m * a = n * b) : a = 0 ↔ b = 0 := by
  rw [← mul_eq_zero_iff_left (Int.natCast_pos.mpr hm).ne', h, mul_eq_zero_iff_left (Int.natCast_pos.mpr hn).ne']

theorem mul_natAbs_eq_of_mul_eq {m n : Nat} {a b : Int} (h : m * a = n * b) : (m : Int) * a.natAbs = n * b.natAbs := by
  have hnat := congrArg Int.natAbs h
  rw [Int.natAbs_mul, Int.natAbs_mul, Int.natAbs_natCast, Int.natAbs_natCast] at hnat
  exact_mod_cast hnat

/-- On one ray numerator and denominator are scaled by one factor, which the quotient does not see. -/
theorem atan2Ratio_eq_of_ray {y x y' x' : Word} {m n : Nat} (hm : 0 < m) (hn : 0 < n)
    (hy : m * y.toInt = n * y'.toInt) (hx : m * x.toInt = n * x'.toInt)
    (h : y.toInt.natAbs + x.toInt.natAbs < 2 ^ 31) (h' : y'.toInt.natAbs + x'.toInt.natAbs < 2 ^ 31) :
    atan2Ratio y x = atan2Ratio y' x' := by
  have hsign := nonneg_iff_of_mul_eq hm hn hx
  have hyabs := mul_natAbs_eq_of_mul_eq hy
  have hxabs := mul_natAbs_eq_of_mul_eq hx
  have hnum : m * (atan2Num (xabs y) x).toInt = n * (atan2Num (xabs y') x').toInt := by
    rw [toInt_atan2Num h, toInt_atan2Num h']
    simp only [hsign]
    split <;> linarith
  have hden : m * (atan2Den (xabs y) x).toInt = n * (atan2Den (xabs y') x').toInt := by
    rw [toInt_atan2Den h, toInt_atan2Den h']
    linarith
  rw [atan2Ratio, atan2Ratio, xdiv, xdiv, tdiv, tdiv, ← Int.mul_tdiv_mul_of_pos _ _ (Int.natCast_pos.mpr hm), ← mul_assoc,
    hnum, hden, mul_assoc, Int.mul_tdiv_mul_of_pos _ _ (Int.natCast_pos.mpr hn)]

/-! ### The cases of atan2f (R171, R173) -/

theorem atan2f_origin : atan2f 0 0 = some 0 := rfl

/-- The special branch is taken for x = 1.0 and |y| in its band (R173). -/
theorem atan2Special_iff (y x : Word) : atan2Special y x = true ↔ x = 0x00010000 ∧ 0x7FFF0000 ≤ y.toInt.natAbs := by
  simp only [atan2Special, Bool.and_eq_true, decide_eq_true_iff]
  exact ⟨fun ⟨⟨_, hx⟩, hy⟩ => ⟨hx, hy⟩, fun ⟨hx, hy⟩ => ⟨⟨rfl, hx⟩, hy⟩⟩

theorem atan2f_special {y : Word} (h : 0x7FFF0000 ≤ y.toInt.natAbs) :
    atan2f y 0x00010000 = some (if 0 < y.toInt then 1024 else 3072) := by
  rw [atan2f, if_neg (by simp), if_pos ((atan2Special_iff y _).mpr ⟨rfl, h⟩)]
  rfl

theorem atan2f_of_den_eq_zero {y x : Word} (h0 : ¬(y = 0 ∧ x = 0)) (h1 : ¬(x = 0x00010000 ∧ 0x7FFF0000 ≤ y.toInt.natAbs))
    (hden : atan2Den (xabs y) x = 0) : atan2f y x = none := by
  rw [atan2f, if_neg h0, if_neg (mt (atan2Special_iff y x).mp h1), (xdivGuarded_eq_none_iff _ _).mpr hden, Option.map_none]

theorem atan2f_of_den_ne_zero {y x : Word} (h0 : ¬(y = 0 ∧ x = 0)) (h1 : ¬(x = 0x00010000 ∧ 0x7FFF0000 ≤ y.toInt.natAbs))
    (hden : atan2Den (xabs y) x ≠ 0) : atan2f y x = some (atan2Angle y x (atan2Ratio y x)) := by
  rw [atan2f, if_neg h0, if_neg (mt (atan2Special_iff y x).mp h1), xdivGuarded_of_ne _ hden, Option.map_some, atan2Ratio]

/-- The angle of a ratio, in the words' own sums. -/
theorem atan2Angle_eq (y x r : Word) :
    let ang : Word := (if 0 ≤ x.toInt then 512 else 1536) + atanPoly r
    atan2Angle y x r = BitVec.ofNat 32 ((if y.toInt < 0 ∧ ang ≠ 0 then 4096 - ang else ang).toNat % 4096) := by
  simp only [atan2Angle, xadd_eq_add, xsub_eq_sub]
  rfl

theorem atan2f_min_min : atan2f 0x80000000 0x80000000 = none :=
  atan2f_of_den_eq_zero (by decide) (by decide) (by decide)

/-- Everywhere but at y = x = 0x80000000 there is an angle: the three other ends of R171 each give one. -/
theorem exists_atan2f_eq_some {y x : Word} (h : ¬(y = 0x80000000 ∧ x = 0x80000000)) : ∃ v, atan2f y x = some v := by
  by_cases h0 : y = 0 ∧ x = 0
  · obtain ⟨rfl, rfl⟩ := h0
    exact ⟨_, atan2f_origin⟩
  by_cases h1 : x = 0x00010000 ∧ 0x7FFF0000 ≤ y.toInt.natAbs
  · obtain ⟨rfl, hband⟩ := h1
    exact ⟨_, atan2f_special hband⟩
  exact ⟨_, atan2f_of_den_ne_zero h0 h1 (mt (atan2Den_eq_zero_iff h0).mp h)⟩

/-- With x = 1.0 the denominator is never 0 (R175). -/
theorem exists_atan2f_one_eq_some (y : Word) : ∃ v, atan2f y 0x00010000 = some v :=
  exists_atan2f_eq_some fun h => absurd h.2 (by decide)

/-- Where no sum wraps the special branch is not taken and the denominator is not 0 but at the origin. -/
theorem atan2f_of_no_wrap {y x : Word} (h : y.toInt.natAbs + x.toInt.natAbs < 2 ^ 31) :
    atan2f y x = if y = 0 ∧ x = 0 then some 0 else some (atan2Angle y x (atan2Ratio y x)) := by
  split
  case isTrue h0 => rw [h0.1, h0.2, atan2f_origin]
  case isFalse h0 =>
    have hone : (0x00010000 : Word).toInt = 65536 := by decide
    have hmin : (0x80000000 : Word).toInt = -2 ^ 31 := by decide
    refine atan2f_of_den_ne_zero h0 ?_ (mt (atan2Den_eq_zero_iff h0).mp ?_)
    · rintro ⟨rfl, hband⟩
      omega
    · rintro ⟨rfl, rfl⟩
      omega

/-- Of y and x the angle sees only the signs, beside the ratio. -/
theorem atan2Angle_congr {y x y' x' : Word} (hy : y.toInt < 0 ↔ y'.toInt < 0) (hx : 0 ≤ x.toInt ↔ 0 ≤ x'.toInt) (r : Word) :
    atan2Angle y x r = atan2Angle y' x' r := by
  have hbase : atan2Base x = atan2Base x' := if_congr hx rfl rfl
  simp only [atan2Angle, hbase]
  exact congrArg awrap (if_congr (and_congr_left' hy) rfl rfl)

/-- Where no sum wraps, two points on one ray from the origin have one angle (R174). -/
theorem atan2f_eq_of_ray {y x y' x' : Word} {m n : Nat} (hm : 0 < m) (hn : 0 < n)
    (hy : m * y.toInt = n * y'.toInt) (hx : m * x.toInt = n * x'.toInt)
    (h : y.toInt.natAbs + x.toInt.natAbs < 2 ^ 31) (h' : y'.toInt.natAbs + x'.toInt.natAbs < 2 ^ 31) :
    atan2f y x = atan2f y' x' := by
  have hzero {a b : Word} (hab : m * a.toInt = n * b.toInt) : a = 0 ↔ b = 0 := by
    rw [← toInt_eq_zero_iff, eq_zero_iff_of_mul_eq hm hn hab, toInt_eq_zero_iff]
  have hysign : y.toInt < 0 ↔ y'.toInt < 0 := by simpa using not_congr (nonneg_iff_of_mul_eq hm hn hy)
  have hangle : atan2Angle y x (atan2Ratio y x) = atan2Angle y' x' (atan2Ratio y' x') := by
    rw [atan2Ratio_eq_of_ray hm hn hy hx h h', atan2Angle_congr hysign (nonneg_iff_of_mul_eq hm hn hx)]
  rw [atan2f_of_no_wrap h, atan2f_of_no_wrap h', hangle]
  exact if_congr (and_congr (hzero hy) (hzero hx)) rfl rfl

/-! ### The cases of ACOS (R177) -/

theorem acosWord_of_le {a : Word} (h : a.toInt ≤ -65536) : acosWord a = some 2048 := if_pos h

theorem acosWord_of_ge {a : Word} (h : 65536 ≤ a.toInt) : acosWord a = some 0 := by
  rw [acosWord, if_neg (by omega), if_pos (by omega)]
  rfl

theorem acosWord_of_band {a : Word} (h : a.toInt.natAbs < 51) : acosWord a = some 1024 := by
  rw [acosWord, if_neg (by omega), if_neg (by omega), if_pos (by exact h)]
  rfl

theorem cosineOf_eq (a : Word) : cosineOf a = sqrtf (0x00010000 - xmul a a) := by
  rw [cosineOf, xsub_eq_sub, Config.xint1]

theorem acosCorrect_eq (a u : Word) :
    acosCorrect a u = if a.toInt < 0 then BitVec.ofNat 32 ((u.toNat + 2048) % 4096) else u := by
  have hsum : s32 (u.toInt + 2048) = u + 2048 := xadd_eq_add u 2048
  have hmod : (u + 2048).toNat % 4096 = (u.toNat + 2048) % 4096 := by
    have hturn : (2048 : Word).toNat = 2048 := rfl
    rw [BitVec.toNat_add]
    omega
  rw [acosCorrect, hsum, awrap, hmod]

/-- Outside the band the operand is not 0, so the quotient s / a exists, and its arctangent does too. -/
theorem acosWord_of_general {a : Word} (hlow : 51 ≤ a.toInt.natAbs) (hhigh : a.toInt.natAbs < 65536) :
    ∃ u, atan2f (xdiv (cosineOf a) a) 0x00010000 = some u ∧ acosWord a = some (acosCorrect a u) := by
  obtain ⟨u, hu⟩ := exists_atan2f_one_eq_some (xdiv (cosineOf a) a)
  have hne : a ≠ 0 := by
    rintro rfl
    exact absurd hlow (by decide)
  refine ⟨u, hu, ?_⟩
  rw [acosWord, if_neg (by omega), if_neg (by omega), if_neg (by exact not_lt.mpr hlow), xdivGuarded_of_ne _ hne,
    Option.bind_some, Config.xint1, hu, Option.map_some]

theorem exists_acosWord_eq_some (a : Word) : ∃ v, acosWord a = some v := by
  by_cases hlow : a.toInt ≤ -65536
  · exact ⟨_, acosWord_of_le hlow⟩
  by_cases hhigh : 65536 ≤ a.toInt
  · exact ⟨_, acosWord_of_ge hhigh⟩
  by_cases hband : a.toInt.natAbs < 51
  · exact ⟨_, acosWord_of_band hband⟩
  obtain ⟨u, -, hu⟩ := acosWord_of_general (a := a) (by omega) (by omega)
  exact ⟨_, hu⟩

end Sys2Proof.Proofs

/-! The statements of 42_inverse_trig.md about the approximator and about ATAN2, ATAN and ACOS: each command's row of the opcode
map, and what it writes or that it traps. -/

namespace Sys2Proof.Proofs

open Sys2Proof Sys2Proof.Machine Sys2Proof.Statements

/-- Settles O34, by the three ends of atan2f: the origin, the special branch, and the ratio. -/
theorem atan2FollowsTheApproximator : Obligations.Atan2FollowsTheApproximator := by
  intro y x ay num den r ang
  have hnum : atan2Num (xabs y) x = num := by rw [atan2Num_eq, xabs_eq_ite_neg]
  have hden : atan2Den (xabs y) x = den := by rw [atan2Den_eq, xabs_eq_ite_neg]
  have hratio : atan2Ratio y x = r := by rw [atan2Ratio, hnum, hden]; rfl
  refine ⟨?_, ?_, fun h0 h1 => ⟨?_, ?_, ?_, ?_⟩⟩
  · rintro ⟨rfl, rfl⟩
    exact atan2f_origin
  · rintro rfl hband
    exact atan2f_special hband
  · exact hden ▸ atan2Den_eq_zero_iff h0
  · exact fun hzero => atan2f_of_den_eq_zero h0 h1 (hden.trans hzero)
  · intro hne
    rw [atan2f_of_den_ne_zero h0 h1 (hden ▸ hne), hratio, atan2Angle_eq]
  · exact hratio ▸ toInt_atan2Ratio_bounds

/-- Settles O35: the cubic over the exact integers, and the reference values read off it. -/
theorem atanPolyIsTheReferenceCubic : Obligations.AtanPolyIsTheReferenceCubic :=
  ⟨toInt_atanPoly, by decide, by decide, by decide, by decide, by decide, by decide⟩

/-- Settles O36, by whether y = x = 0x80000000. -/
theorem atan2WritesTheAngleOrTraps : Obligations.Atan2WritesTheAngleOrTraps := by
  refine ⟨rowS2_of_decode (n := "ATAN2") (op := 0x18) (by decide) fun w h => by simp only [decode, h],
    fun _ _ _ _ _ _ hm hn hy hx h h' => atan2f_eq_of_ray hm hn hy hx h h',
    fun rd y x s _ => ⟨fun hne => ?_, fun ⟨hy, hx⟩ => ?_⟩⟩
  · obtain ⟨v, hv⟩ := exists_atan2f_eq_some hne
    obtain ⟨t, hexec, hwrote⟩ := runS2_wrote (rd := rd) hv
    exact ⟨t, v, hexec, hv, hwrote⟩
  · exact runS2_trapped (by rw [hy, hx, atan2f_min_min])

/-- Settles O37. -/
theorem atanWritesTheAngleAndNeverTraps : Obligations.AtanWritesTheAngleAndNeverTraps := by
  refine ⟨rowS1_of_decode (n := "ATAN") (op := 0x19) (by decide) fun w h => by simp only [decode, h], fun rd a s _ => ?_⟩
  obtain ⟨v, hv⟩ := exists_atan2f_one_eq_some (s.reg a)
  obtain ⟨t, hexec, hwrote⟩ := runS1_wrote (rd := rd) (f := fun y => atan2f y Config.xint1) hv
  exact ⟨t, v, hexec, hv, hwrote⟩

/-- Settles O39: a result exists for every operand, and each clause reads it off its case of ACOS. -/
theorem acosWritesTheAngleAndNeverTraps : Obligations.AcosWritesTheAngleAndNeverTraps := by
  refine ⟨rowS1_of_decode (n := "ACOS") (op := 0x1B) (by decide) fun w h => by simp only [decode, h], fun rd a s _ => ?_⟩
  obtain ⟨v, hv⟩ := exists_acosWord_eq_some (s.reg a)
  obtain ⟨t, hexec, hwrote⟩ := runS1_wrote (rd := rd) hv
  refine ⟨t, v, hexec, hwrote, fun h => ?_, fun h => ?_, fun h => ?_, fun hlow hhigh => ?_⟩
  · exact Option.some.inj (hv.symm.trans (acosWord_of_le h))
  · exact Option.some.inj (hv.symm.trans (acosWord_of_ge h))
  · exact Option.some.inj (hv.symm.trans (acosWord_of_band h))
  · obtain ⟨u, hu, hacos⟩ := acosWord_of_general hlow hhigh
    have hv_eq : v = acosCorrect (s.reg a) u := Option.some.inj (hv.symm.trans hacos)
    rw [cosineOf_eq] at hu
    exact ⟨u, hu, hv_eq.trans (acosCorrect_eq _ u)⟩

end Sys2Proof.Proofs

/-! The square root (43_sqrt.md): the digit-by-digit loop is the library's root, and what sqrtf answers on each side of 0. -/

namespace Sys2Proof.Proofs

open Sys2Proof Sys2Proof.Machine Sys2Proof.Statements

/-! ### The loop (R200) -/

/-- Setting a bit below every bit of `res` adds its weight. -/
theorem or_shiftLeft_eq_add {res k : Nat} (h : 2 ^ (k + 1) ∣ res) : res ||| (1 <<< k) = res + 2 ^ k := by
  obtain ⟨q, rfl⟩ := h
  rw [Nat.one_shiftLeft]
  exact (Nat.two_pow_add_eq_or_of_lt (Nat.pow_lt_pow_right (by norm_num) k.lt_succ_self) q).symm

/-- The invariant of the loop: with bits `k - 1` down to 0 still to find, `res` holds the root's bits from `k` up. A candidate is
kept exactly where it is not above the root, so the invariant holds with one bit less to find. -/
theorem sqrtLoop_eq_sqrt {target k res : Nat} (hbits : 2 ^ k ∣ res) (hlow : res ≤ Nat.sqrt target)
    (hhigh : Nat.sqrt target < res + 2 ^ k) : sqrtLoop target k res = Nat.sqrt target := by
  induction k generalizing res with
  | zero =>
    rw [sqrtLoop]
    omega
  | succ k ih =>
    have hweight : 2 ^ (k + 1) = 2 ^ k + 2 ^ k := by ring
    have hres : 2 ^ k ∣ res := (pow_dvd_pow 2 k.le_succ).trans hbits
    simp only [sqrtLoop, or_shiftLeft_eq_add hbits, ← Nat.le_sqrt]
    split
    case isTrue hkeep => exact ih (hres.add dvd_rfl) hkeep (by omega)
    case isFalse hdrop => exact ih hres hlow (by omega)

/-! ### The root of a magnitude (R200, R202) -/

theorem floorRoot_mul_self_le (u : Nat) : floorRoot u * floorRoot u ≤ u * 65536 := Nat.sqrt_le _

theorem lt_floorRoot_succ_mul_self (u : Nat) : u * 65536 < (floorRoot u + 1) * (floorRoot u + 1) := Nat.lt_succ_sqrt _

/-- The largest root, that of 2^31, is 11863283. -/
theorem floorRoot_le {u : Nat} (h : u ≤ 2 ^ 31) : floorRoot u ≤ 11863283 :=
  Nat.lt_succ_iff.mp (Nat.sqrt_lt.mpr (by omega))

theorem floorRoot_mono {u v : Nat} (h : u ≤ v) : floorRoot u ≤ floorRoot v :=
  Nat.sqrt_le_sqrt (Nat.mul_le_mul_right _ h)

/-- 65536 is a square too, so a perfect square of whole numbers has an exact root. -/
theorem floorRoot_square (n : Nat) : floorRoot (n * n * 65536) = n * 65536 := by
  have hsquare : n * n * 65536 * 65536 = (n * 65536) * (n * 65536) := by ring
  rw [floorRoot, hsquare, Nat.sqrt_eq]

/-- 24 bits hold every root up to that of 2^31, so the loop's 24 masks find it. -/
theorem sqrtMagnitude_eq_floorRoot {u : Nat} (h : u ≤ 2 ^ 31) : sqrtMagnitude u = floorRoot u := by
  have hroot : Nat.sqrt (u * 65536) ≤ 11863283 := floorRoot_le h
  exact sqrtLoop_eq_sqrt (dvd_zero _) (Nat.zero_le _) (by omega)

/-! ### sqrtf on each side of 0 (R200, R202) -/

theorem toInt_eq_toNat_of_nonneg {a : Word} (h : 0 ≤ a.toInt) : a.toInt = a.toNat :=
  BitVec.toInt_eq_toNat_of_lt (BitVec.toInt_pos_iff.mp h)

theorem toNat_le_of_nonneg {a : Word} (h : 0 ≤ a.toInt) : a.toNat ≤ 2 ^ 31 := by
  have := BitVec.toInt_pos_iff.mp h
  omega

theorem sqrtf_of_nonneg {a : Word} (h : 0 ≤ a.toInt) : sqrtf a = BitVec.ofNat 32 (floorRoot a.toNat) := by
  rw [sqrtf, if_neg (not_lt.mpr h), sqrtMagnitude_eq_floorRoot (toNat_le_of_nonneg h), s32, BitVec.ofInt_natCast]

theorem sqrtf_of_neg {a : Word} (h : a.toInt < 0) : sqrtf a = BitVec.ofInt 32 (-(floorRoot a.toInt.natAbs : Int)) := by
  rw [sqrtf, if_pos h, sqrtMagnitude_eq_floorRoot (absMath_le_and_eq_iff a).1, s32, absMath]

theorem sqrtf_eq_closedRoot (a : Word) : sqrtf a = closedRoot a := by
  unfold closedRoot
  split
  case isTrue h => exact sqrtf_of_nonneg h
  case isFalse h => exact sqrtf_of_neg (not_le.mp h)

/-- The root of a word that is not negative is far below 2^31, so the wrap does not change it. -/
theorem toInt_sqrtf_of_nonneg {a : Word} (h : 0 ≤ a.toInt) : (sqrtf a).toInt = floorRoot a.toNat := by
  have hroot := floorRoot_le (toNat_le_of_nonneg h)
  rw [sqrtf_of_nonneg h, ← BitVec.ofInt_natCast]
  exact BitVec.toInt_ofInt_eq_self (by norm_num) (by omega) (by omega)

/-- The root of the negation of a positive word is the negated root; 1 <= a leaves out 0x80000000, whose negation is itself. -/
theorem sqrtf_neg_of_pos {a : Word} (h : 1 ≤ a.toInt) : sqrtf (-a) = -(sqrtf a) := by
  have hnat := toInt_eq_toNat_of_nonneg (a := a) (by omega)
  have hneg : (-a).toInt = -a.toInt := BitVec.toInt_neg_of_ne_intMin (by rintro rfl; exact absurd h (by decide))
  rw [sqrtf_of_neg (by omega), hneg, Int.natAbs_neg, hnat, Int.natAbs_natCast, BitVec.ofInt_neg, BitVec.ofInt_natCast,
    sqrtf_of_nonneg (by omega)]

theorem sqrtf_ofNat {u : Nat} (h : u < 2 ^ 31) : sqrtf (BitVec.ofNat 32 u) = BitVec.ofNat 32 (floorRoot u) := by
  have hnat : (BitVec.ofNat 32 u).toNat = u := Nat.mod_eq_of_lt (by omega)
  rw [sqrtf_of_nonneg (BitVec.toInt_pos_iff.mpr (by omega)), hnat]

end Sys2Proof.Proofs

/-! The statements of 43_sqrt.md. -/

namespace Sys2Proof.Proofs

open Sys2Proof Sys2Proof.Machine Sys2Proof.Statements

/-- Settles O31: the loop is the library's root, and the rest is what that root is. -/
theorem sqrtLoopIsTheFloorRoot : Obligations.SqrtLoopIsTheFloorRoot := by
  refine ⟨fun u hu => ?_, sqrtf_eq_closedRoot⟩
  have hroot := floorRoot_le hu
  rw [sqrtMagnitude_eq_floorRoot hu]
  exact ⟨rfl, by omega, floorRoot_mul_self_le u, fun _ _ hc => Nat.le_sqrt.mpr hc⟩

/-- Settles O32. -/
theorem sqrtWritesTheSignedRoot : Obligations.SqrtWritesTheSignedRoot :=
  ⟨rowS1_of_decode (n := "SQRT") (op := 0x20) (by decide) fun w h => by simp only [decode, h],
    writesS1_of_run (fun _ _ _ => rfl) sqrtf_eq_closedRoot⟩

/-- Settles O33, each property read off the root of the magnitude. -/
theorem sqrtIsFloorTightMonotoneAndOdd : Obligations.SqrtIsFloorTightMonotoneAndOdd := by
  refine ⟨fun a ha => ?_, fun a b ha hab => ?_, fun a ha => sqrtf_neg_of_pos ha, fun n hn => ?_⟩
  · rw [toInt_sqrtf_of_nonneg ha, toInt_eq_toNat_of_nonneg ha]
    exact ⟨by exact_mod_cast floorRoot_mul_self_le _, by exact_mod_cast lt_floorRoot_succ_mul_self _, Int.natCast_nonneg _,
      by exact_mod_cast floorRoot_le (toNat_le_of_nonneg ha)⟩
  · have hb := ha.trans hab
    rw [toInt_eq_toNat_of_nonneg ha, toInt_eq_toNat_of_nonneg hb] at hab
    rw [toInt_sqrtf_of_nonneg ha, toInt_sqrtf_of_nonneg hb]
    exact_mod_cast floorRoot_mono (by omega)
  · have hsquare : n * n ≤ 181 * 181 := Nat.mul_le_mul hn hn
    rw [sqrtf_ofNat (by omega), floorRoot_square]

end Sys2Proof.Proofs

/-! The register moves (44_register_move.md): rows of class IMM, the two half-word results, and the statements. -/

namespace Sys2Proof.Proofs

open Sys2Proof Sys2Proof.Machine Sys2Proof.Statements

/-! ### Class IMM (30_encoding.md R71, R75) -/

/-- The immediate field is the word modulo 2^16. -/
theorem imm16Field_eq_ofNat (w : Word) : imm16Field w = BitVec.ofNat 16 w.toNat := by
  apply BitVec.eq_of_toNat_eq
  simp [imm16Field]

theorem rowImm_of_decode {n : String} {op : Nat} {mk : Reg → Imm16 → Instr} (hr : ⟨n, op, .imm⟩ ∈ opcodeMap)
    (hd : ∀ w, (opField w).toNat = op → decode w = decodeImm w mk) : RowImm (OpRow.matchWord ⟨n, op, .imm⟩) mk := by
  intro w hw
  obtain ⟨hop, hchecked⟩ := op_eq_and_checked_of_match hr hw
  rw [hd w hop, decodeImm, hchecked, imm16Field_eq_ofNat, rdField, toFin_extractLsb'_eq_fieldAt]

/-- A command that reads no register writes its word and records no read. -/
theorem runImm_wrote (rd : Reg) (v : Word) (s : State) : ∃ t, runImm rd v s = .next t ∧ Wrote s t [] rd v := by
  have hwrote := wrote_noteReads_writeReg s [] rd v
  rw [State.noteReads_nil] at hwrote
  exact ⟨_, rfl, hwrote⟩

/-! ### The words that LDH and LDL write (R210, R211) -/

/-- A half word above sixteen zeros is the signed integer it holds, in Q16.16. -/
theorem ldhWord_eq_ofInt (imm : Imm16) : ldhWord imm = BitVec.ofInt 32 (imm.toInt * 65536) := by
  rw [← ldhWord_ofInt, BitVec.ofInt_toInt]

/-- The kept high half is a multiple of 2^16 and the new low half is below 2^16, so joining their bits adds them. -/
theorem ldlWord_eq_ofNat (old : Word) (imm : Imm16) :
    ldlWord old imm = BitVec.ofNat 32 (old.toNat / 65536 * 65536 + imm.toNat) := by
  have hhigh : (old &&& 0xFFFF0000).toNat = 2 ^ 16 * (old.toNat / 65536) := by
    rw [mul_comm]; exact xfloor_toNat old
  have hlow : (imm.setWidth 32).toNat = imm.toNat := BitVec.toNat_setWidth_of_le (by norm_num)
  apply BitVec.eq_of_toNat_eq
  rw [ldlWord, BitVec.toNat_or, hhigh, hlow, ← Nat.two_pow_add_eq_or_of_lt imm.isLt, BitVec.toNat_ofNat]
  omega

/-! ### The statements -/

/-- Settles O40. -/
theorem ldhWritesTheHighHalf : Obligations.LdhWritesTheHighHalf := by
  refine ⟨rowImm_of_decode (n := "LDH") (op := 0x30) (by decide) fun w h => by simp only [decode, h], fun rd imm s => ?_⟩
  rw [← ldhWord_eq_ofInt]
  exact runImm_wrote rd (ldhWord imm) s

/-- Settles O41: LDL runs as a class S1 command whose source is its rd. -/
theorem ldlReplacesTheLowHalf : Obligations.LdlReplacesTheLowHalf := by
  refine ⟨rowImm_of_decode (n := "LDL") (op := 0x31) (by decide) fun w h => by simp only [decode, h], fun rd imm s _ => ?_⟩
  rw [← ldlWord_eq_ofNat]
  exact runS1_wrote (f := fun old => some (ldlWord old imm)) rfl

/-- Settles O42. -/
theorem movCopiesTheRegister : Obligations.MovCopiesTheRegister :=
  ⟨rowS1_of_decode (n := "MOV") (op := 0x32) (by decide) fun w h => by simp only [decode, h],
    writesS1_of_run (fun _ _ _ => rfl) fun _ => rfl⟩

end Sys2Proof.Proofs

/-! IllegalCommand (60_exceptions.md R222): which words no row of the opcode map selects, told by the op and by the reserved
bits, and what a write of one to CMD does. -/

namespace Sys2Proof.Proofs

open Sys2Proof Sys2Proof.Machine Sys2Proof.Statements

/-! ### Words that no row selects -/

/-- The opcode field of a word, by division (30_encoding.md R71). -/
theorem toNat_opField (w : Word) : (opField w).toNat = w.toNat / 2 ^ 26 := by
  have := w.isLt
  simp only [opField, BitVec.extractLsb'_toNat, Nat.shiftRight_eq_div_pow]
  omega

/-- No row of the opcode map has an op that R85 leaves unassigned or that R84 reserves for exp, log and pow. -/
theorem opcodeMap_op_assigned : ∀ r ∈ opcodeMap,
    ¬(r.op ∈ [0x00, 0x0E, 0x0F, 0x14, 0x15, 0x16, 0x17, 0x1C, 0x1D, 0x1E, 0x1F] ∨ 0x33 ≤ r.op ∨
      (0x21 ≤ r.op ∧ r.op ≤ 0x2F)) := by decide

theorem op_eq_of_selects {r : OpRow} (hr : r ∈ opcodeMap) {w : Word} (h : r.selects w = true) : w.toNat / 2 ^ 26 = r.op :=
  (toNat_opField w).symm.trans ((selects_iff hr w).mp h).1

theorem not_selects_of_op_ne {w : Word} (h : ∀ r ∈ opcodeMap, w.toNat / 2 ^ 26 ≠ r.op) :
    ∀ r ∈ opcodeMap, r.selects w = false :=
  fun r hr => Bool.eq_false_iff.mpr fun hsel => h r hr (op_eq_of_selects hr hsel)

/-- A word with a row's op and a 1 in a bit that the row's class requires to be zero: a row that selected it would have its op,
so would be that row. -/
theorem not_selects_of_mask_ne {r : OpRow} (hr : r ∈ opcodeMap) {w : Word} (hop : w.toNat / 2 ^ 26 = r.op)
    (hmask : w &&& r.cls.mask ≠ r.matchWord) : ∀ q ∈ opcodeMap, q.selects w = false := by
  refine fun q hq => Bool.eq_false_iff.mpr fun hsel => ?_
  have hqr : q = r := opcodeMap_row_eq_of_op_eq hq hr ((op_eq_of_selects hq hsel).symm.trans hop)
  subst hqr
  exact hmask (beq_iff_eq.mp hsel)

/-! ### Issuing such a word -/

/-- Issuing a word that no row selects reads no register and raises IllegalCommand. -/
theorem issue_traps_of_not_selects {w : Word} (h : ∀ r ∈ opcodeMap, r.selects w = false) (s : State) :
    ∃ t, issue w s = .next t ∧ Trapped s t [] .illegalCommand := by
  obtain ⟨e, hd⟩ := decode_of_not_selects h
  refine ⟨s.raise .illegalCommand, by rw [issue, hd], ?_⟩
  simpa using trapped_noteReads_raise s [] .illegalCommand

/-- Settles O7, by the reason of R222 for which no row of the opcode map selects the word. -/
theorem illegalWordsRaiseIllegalCommand : Obligations.IllegalWordsRaiseIllegalCommand := by
  intro s rest offset w hoffset hpending hillegal
  have hnone : ∀ r ∈ opcodeMap, r.selects w = false := by
    rcases hillegal with hunassigned | habove | hreserved | ⟨r, hr, hop, hmask⟩
    · exact not_selects_of_op_ne fun r hr hop => opcodeMap_op_assigned r hr (.inl (hop ▸ hunassigned))
    · exact not_selects_of_op_ne fun r hr hop => opcodeMap_op_assigned r hr (.inr (.inl (hop ▸ habove)))
    · exact not_selects_of_op_ne fun r hr hop => opcodeMap_op_assigned r hr (.inr (.inr (hop ▸ hreserved)))
    · exact not_selects_of_mask_ne hr hop hmask
  rw [step_write_cmd (by omega) hpending]
  exact issue_traps_of_not_selects hnone (s.accept rest)

end Sys2Proof.Proofs

/-! Encoding and decoding are inverse to each other (30_encoding.md section 1 and section 2). -/

namespace Sys2Proof.Proofs

open Sys2Proof Sys2Proof.Machine Sys2Proof.Statements

/-! ### Decoding an encoded word, by operand class (R72, R73, R75) -/

theorem decodeS1_formatR (op : BitVec 6) (rd a : Reg) (mk : Reg → Reg → Instr) :
    decodeS1 (formatR op rd a 0 0) mk = .ok (mk rd a) := by
  rw [decodeS1, checked, formatR_mask_s1, formatR_op, if_pos rfl, formatR_rd, formatR_rs1]

theorem decodeS2_formatR (op : BitVec 6) (rd a b : Reg) (mk : Reg → Reg → Reg → Instr) :
    decodeS2 (formatR op rd a b 0) mk = .ok (mk rd a b) := by
  rw [decodeS2, checked, formatR_mask_s2, formatR_op, if_pos rfl, formatR_rd, formatR_rs1, formatR_rs2]

theorem decodeS3_formatR (op : BitVec 6) (rd a b c : Reg) (mk : Reg → Reg → Reg → Reg → Instr) :
    decodeS3 (formatR op rd a b c) mk = .ok (mk rd a b c) := by
  rw [decodeS3, checked, formatR_mask_s3, formatR_op, if_pos rfl, formatR_rd, formatR_rs1, formatR_rs2, formatR_rs3]

/-- Settles O2: the opcode of each command picks its own line of the decoder, and that line reads the operands back. -/
theorem decodeInvertsEncode : Obligations.DecodeInvertsEncode := by
  intro i
  cases i
  case ldh rd imm => exact decode_encode_ldh rd imm
  case ldl rd imm => exact decode_encode_ldl rd imm
  all_goals simp [encode, decode, decodeS1_formatR, decodeS2_formatR, decodeS3_formatR]

/-! ### Encoding the fields of a word that passes the check of its class (R76) -/

/-- A field that the mask covers, below the opcode field, is 0 in a word that has only its opcode under the mask. -/
theorem extractLsb'_eq_zero_of_mask {w m : Word} {op : BitVec 6} (h : w &&& m = op.setWidth 32 <<< 26) (lo len : Nat)
    (hle : lo + len ≤ 26) (hm : m.extractLsb' lo len = BitVec.allOnes len) : w.extractLsb' lo len = 0#len := by
  have hzero : (op.setWidth 32 <<< 26).extractLsb' lo len = 0#len := by
    ext k hk
    have : lo + k < 26 := by omega
    simp [this]
  calc w.extractLsb' lo len = (w &&& m).extractLsb' lo len := by rw [BitVec.extractLsb'_and, hm, BitVec.and_allOnes]
    _ = 0#len := by rw [h, hzero]

/-- A register field that reads 0. -/
theorem toFin_extractLsb'_eq_zero {w : Word} {lo : Nat} (h : w.extractLsb' lo 4 = 0#4) : (w.extractLsb' lo 4).toFin = 0 := by
  rw [h]; rfl

/-- A word whose ten low bits are 0 is its fields in format R (R72). -/
theorem formatR_fields {w : Word} (h : w.extractLsb' 0 10 = 0#10) :
    formatR (opField w) (rdField w) (rs1Field w) (rs2Field w) (rs3Field w) = w := by
  simp only [formatR, opField, rdField, rs1Field, rs2Field, rs3Field, BitVec.ofFin_toFin, ← h]
  rw [BitVec.extractLsb'_append_extractLsb'_eq_extractLsb', BitVec.extractLsb'_append_extractLsb'_eq_extractLsb',
    BitVec.extractLsb'_append_extractLsb'_eq_extractLsb', BitVec.extractLsb'_append_extractLsb'_eq_extractLsb',
    BitVec.extractLsb'_append_extractLsb'_eq_extractLsb']
  · exact BitVec.extractLsb'_eq_self
  all_goals rfl

/-- A word whose bits 21 to 16 are 0 is its fields in format I (R73). -/
theorem formatI_fields {w : Word} (h : w.extractLsb' 16 6 = 0#6) : formatI (opField w) (rdField w) (imm16Field w) = w := by
  simp only [formatI, opField, rdField, imm16Field, BitVec.ofFin_toFin, ← h]
  rw [BitVec.extractLsb'_append_extractLsb'_eq_extractLsb', BitVec.extractLsb'_append_extractLsb'_eq_extractLsb',
    BitVec.extractLsb'_append_extractLsb'_eq_extractLsb']
  · exact BitVec.extractLsb'_eq_self
  all_goals rfl

theorem checked_eq_ok_iff {w : Word} {c : OperandClass} {i j : Instr} :
    checked w c i = .ok j ↔ w &&& c.mask = (opField w).setWidth 32 <<< 26 ∧ i = j := by
  unfold checked
  split <;> simp_all

theorem opField_eq_ofNat {w : Word} {op : Nat} (h : (opField w).toNat = op) : opField w = BitVec.ofNat 6 op := by
  rw [← h, BitVec.ofNat_toNat, BitVec.setWidth_eq]

theorem encode_of_decodeS3 {w : Word} {op : Nat} {mk : Reg → Reg → Reg → Reg → Instr} {i : Instr}
    (hop : (opField w).toNat = op) (henc : ∀ rd a b c, encode (mk rd a b c) = formatR (BitVec.ofNat 6 op) rd a b c)
    (h : decodeS3 w mk = .ok i) : encode i = w := by
  obtain ⟨hmask, rfl⟩ := checked_eq_ok_iff.mp h
  rw [henc, ← opField_eq_ofNat hop]
  exact formatR_fields (extractLsb'_eq_zero_of_mask hmask 0 10 (by omega) rfl)

theorem encode_of_decodeS2 {w : Word} {op : Nat} {mk : Reg → Reg → Reg → Instr} {i : Instr}
    (hop : (opField w).toNat = op) (henc : ∀ rd a b, encode (mk rd a b) = formatR (BitVec.ofNat 6 op) rd a b 0)
    (h : decodeS2 w mk = .ok i) : encode i = w := by
  obtain ⟨hmask, rfl⟩ := checked_eq_ok_iff.mp h
  have hrs3 : rs3Field w = 0 := toFin_extractLsb'_eq_zero (extractLsb'_eq_zero_of_mask hmask 10 4 (by omega) rfl)
  rw [henc, ← opField_eq_ofNat hop, ← hrs3]
  exact formatR_fields (extractLsb'_eq_zero_of_mask hmask 0 10 (by omega) rfl)

theorem encode_of_decodeS1 {w : Word} {op : Nat} {mk : Reg → Reg → Instr} {i : Instr}
    (hop : (opField w).toNat = op) (henc : ∀ rd a, encode (mk rd a) = formatR (BitVec.ofNat 6 op) rd a 0 0)
    (h : decodeS1 w mk = .ok i) : encode i = w := by
  obtain ⟨hmask, rfl⟩ := checked_eq_ok_iff.mp h
  have hrs2 : rs2Field w = 0 := toFin_extractLsb'_eq_zero (extractLsb'_eq_zero_of_mask hmask 14 4 (by omega) rfl)
  have hrs3 : rs3Field w = 0 := toFin_extractLsb'_eq_zero (extractLsb'_eq_zero_of_mask hmask 10 4 (by omega) rfl)
  have hfields := formatR_fields (extractLsb'_eq_zero_of_mask hmask 0 10 (by omega) rfl)
  rw [hrs2, hrs3] at hfields
  rw [henc, ← opField_eq_ofNat hop, hfields]

theorem encode_of_decodeImm {w : Word} {op : Nat} {mk : Reg → Imm16 → Instr} {i : Instr}
    (hop : (opField w).toNat = op) (henc : ∀ rd imm, encode (mk rd imm) = formatI (BitVec.ofNat 6 op) rd imm)
    (h : decodeImm w mk = .ok i) : encode i = w := by
  obtain ⟨hmask, rfl⟩ := checked_eq_ok_iff.mp h
  rw [henc, ← opField_eq_ofNat hop]
  exact formatI_fields (extractLsb'_eq_zero_of_mask hmask 16 6 (by omega) rfl)

/-- Settles O3, by the line of the decoder that took the word, class by class: the operands it read, put back behind its opcode,
are the word. -/
theorem encodeInvertsDecode : Obligations.EncodeInvertsDecode := by
  intro w i h
  unfold decode at h
  split at h
  case h_9 hop | h_13 hop => exact encode_of_decodeS3 hop (fun _ _ _ _ => rfl) h
  case h_1 hop | h_2 hop | h_3 hop | h_4 hop | h_5 hop | h_7 hop | h_8 hop | h_18 hop =>
    exact encode_of_decodeS2 hop (fun _ _ _ => rfl) h
  case h_6 hop | h_10 hop | h_11 hop | h_12 hop | h_14 hop | h_15 hop | h_16 hop | h_17 hop | h_19 hop | h_20 hop |
      h_21 hop | h_22 hop | h_25 hop =>
    exact encode_of_decodeS1 hop (fun _ _ => rfl) h
  case h_23 hop | h_24 hop => exact encode_of_decodeImm hop (fun _ _ => rfl) h
  case h_26 => split at h <;> cases h

/-- Settles O1. -/
theorem specWordsDecode : Obligations.SpecWordsDecode := by
  unfold Obligations.SpecWordsDecode
  decide

end Sys2Proof.Proofs

/-! ASIN (42_inverse_trig.md R176), and the angles that commands read and return (00_scope.md R8). -/

namespace Sys2Proof.Proofs

open Sys2Proof Sys2Proof.Machine Sys2Proof.Statements

/-! ### Angles (00_scope.md R8) -/

/-- An angle of [0, 4096). -/
def IsAngle (v : Word) : Prop := v.toNat < 4096

theorem isAngle_awrap (a : Word) : IsAngle (awrap a) := awrap_lt a

theorem isAngle_ofNat {n : Nat} (h : n < 4096) : IsAngle (BitVec.ofNat 32 n) := (Nat.mod_le n _).trans_lt h

theorem isAngle_atan2f {y x v : Word} (h : atan2f y x = some v) : IsAngle v := by
  unfold atan2f at h
  split at h
  case isTrue => cases h; exact isAngle_ofNat (by norm_num)
  case isFalse =>
    split at h
    case isTrue => cases h; split <;> exact isAngle_ofNat (by norm_num)
    case isFalse =>
      obtain ⟨r, -, rfl⟩ := Option.map_eq_some_iff.mp h
      exact isAngle_awrap _

theorem exists_atan2f_one_eq_angle (y : Word) : ∃ v, atan2f y 0x00010000 = some v ∧ IsAngle v := by
  obtain ⟨v, hv⟩ := exists_atan2f_one_eq_some y
  exact ⟨v, hv, isAngle_atan2f hv⟩

/-! ### The cases of ASIN (R176) -/

theorem asinWord_of_le {a : Word} (h : a.toInt ≤ -65536) : asinWord a = some 3072 := if_pos h

theorem asinWord_of_ge {a : Word} (h : 65536 ≤ a.toInt) : asinWord a = some 1024 := by
  rw [asinWord, if_neg (by omega), if_pos (by omega)]
  rfl

theorem asinWord_of_band {a : Word} (h : a.toInt.natAbs < 51) : asinWord a = some 0 := by
  rw [asinWord, if_neg (by omega), if_neg (by omega), if_pos (by exact h)]
  rfl

/-- The largest operand of the general path, 65535, has a square that floors to 65534. -/
theorem mul_self_div_le {n : Int} (h : n.natAbs < 65536) : 0 ≤ n * n / 65536 ∧ n * n / 65536 ≤ 65534 := by
  have hsquare : n * n ≤ 65535 * 65535 := by
    rw [← Int.natAbs_mul_self]
    exact_mod_cast Nat.mul_le_mul (show n.natAbs ≤ 65535 by omega) (show n.natAbs ≤ 65535 by omega)
  exact ⟨Int.ediv_nonneg (mul_self_nonneg n) (by norm_num), by omega⟩

/-- 1 - a*a is at least 2 raw units on the general path. -/
theorem toInt_one_sub_square {a : Word} (h : a.toInt.natAbs < 65536) :
    (xsub Config.xint1 (xmul a a)).toInt = 65536 - a.toInt * a.toInt / 65536 := by
  obtain ⟨hlow, hhigh⟩ := mul_self_div_le h
  have hone : Config.xint1.toInt = 65536 := by decide
  rw [xsub, toInt_s32, toInt_xmul, hone, wrapped, wrapped]
  omega

/-- The divisor s of the general path is at least 362 raw units, since 362 * 362 <= 2 * 65536 (R176). -/
theorem toInt_cosineOf_ge {a : Word} (h : a.toInt.natAbs < 65536) : 362 ≤ (cosineOf a).toInt := by
  obtain ⟨-, hhigh⟩ := mul_self_div_le h
  have hradicand := toInt_one_sub_square h
  have hnonneg : 0 ≤ (xsub Config.xint1 (xmul a a)).toInt := by omega
  have hnat := toInt_eq_toNat_of_nonneg hnonneg
  rw [cosineOf, toInt_sqrtf_of_nonneg hnonneg]
  exact_mod_cast Nat.le_sqrt.mpr (by omega)

/-- On the general path the divisor is not 0, so the quotient a / s exists, and its arctangent does too. -/
theorem asinWord_of_general {a : Word} (hlow : 51 ≤ a.toInt.natAbs) (hhigh : a.toInt.natAbs < 65536) :
    asinWord a = atan2f (xdiv a (cosineOf a)) 0x00010000 := by
  have hroot := toInt_cosineOf_ge hhigh
  have hne : cosineOf a ≠ 0 := mt (toInt_eq_zero_iff _).mpr (by omega)
  rw [asinWord, if_neg (by omega), if_neg (by omega), if_neg (by exact not_lt.mpr hlow), xdivGuarded_of_ne _ hne,
    Option.bind_some, Config.xint1]

/-- Every operand has a result, and it is an angle. -/
theorem exists_asinWord_eq_angle (a : Word) : ∃ v, asinWord a = some v ∧ IsAngle v := by
  by_cases hlow : a.toInt ≤ -65536
  · exact ⟨_, asinWord_of_le hlow, isAngle_ofNat (by norm_num)⟩
  by_cases hhigh : 65536 ≤ a.toInt
  · exact ⟨_, asinWord_of_ge hhigh, isAngle_ofNat (by norm_num)⟩
  by_cases hband : a.toInt.natAbs < 51
  · exact ⟨_, asinWord_of_band hband, isAngle_ofNat (by norm_num)⟩
  rw [asinWord_of_general (by omega) (by omega)]
  exact exists_atan2f_one_eq_angle _

/-- Settles O38: a result exists for every operand, and each clause reads it off its case of ASIN. -/
theorem asinWritesTheAngleAndNeverTraps : Obligations.AsinWritesTheAngleAndNeverTraps := by
  refine ⟨rowS1_of_decode (n := "ASIN") (op := 0x1A) (by decide) fun w h => by simp only [decode, h], fun rd a s _ => ?_⟩
  obtain ⟨v, hv, -⟩ := exists_asinWord_eq_angle (s.reg a)
  obtain ⟨t, hexec, hwrote⟩ := runS1_wrote (rd := rd) hv
  refine ⟨t, v, hexec, hwrote, fun h => ?_, fun h => ?_, fun h => ?_, fun hlow hhigh => ?_⟩
  · exact Option.some.inj (hv.symm.trans (asinWord_of_le h))
  · exact Option.some.inj (hv.symm.trans (asinWord_of_ge h))
  · exact Option.some.inj (hv.symm.trans (asinWord_of_band h))
  · rw [← cosineOf_eq]
    exact ⟨toInt_cosineOf_ge hhigh, (asinWord_of_general hlow hhigh).symm.trans hv⟩

/-! ### The angle of ACOS (00_scope.md R8) -/

theorem isAngle_acosCorrect (a : Word) {u : Word} (h : IsAngle u) : IsAngle (acosCorrect a u) := by
  unfold acosCorrect
  split
  · exact isAngle_awrap _
  · exact h

/-- Every operand has a result, and it is an angle. -/
theorem exists_acosWord_eq_angle (a : Word) : ∃ v, acosWord a = some v ∧ IsAngle v := by
  by_cases hlow : a.toInt ≤ -65536
  · exact ⟨_, acosWord_of_le hlow, isAngle_ofNat (by norm_num)⟩
  by_cases hhigh : 65536 ≤ a.toInt
  · exact ⟨_, acosWord_of_ge hhigh, isAngle_ofNat (by norm_num)⟩
  by_cases hband : a.toInt.natAbs < 51
  · exact ⟨_, acosWord_of_band hband, isAngle_ofNat (by norm_num)⟩
  obtain ⟨u, hu, hacos⟩ := acosWord_of_general (a := a) (by omega) (by omega)
  exact ⟨_, hacos, isAngle_acosCorrect a (isAngle_atan2f hu)⟩

/-! ### What a class S1 command leaves in rd -/

theorem reg_of_runS1 {rd a : Reg} {f : Word → Option Word} {s t : State} {v : Word} (hf : f (s.reg a) = some v)
    (h : runS1 rd a f s = .next t) : t.reg rd = v := by
  obtain ⟨u, hu, hwrote⟩ := runS1_wrote (rd := rd) hf
  cases h.symm.trans hu
  exact hwrote.value

/-- A command that sees its source only through the fold leaves one word for sources equal modulo 4096. -/
theorem reg_eq_of_fold {rd a : Reg} {f : Word → Word} {s s' t t' : State} (hfold : ∀ x y, awrap x = awrap y → f x = f y)
    (hmod : (s.reg a).toNat % 4096 = (s'.reg a).toNat % 4096) (h : runS1 rd a (fun x => some (f x)) s = .next t)
    (h' : runS1 rd a (fun x => some (f x)) s' = .next t') : t.reg rd = t'.reg rd := by
  have hwrap : awrap (s.reg a) = awrap (s'.reg a) := by rw [awrap, awrap, hmod]
  rw [reg_of_runS1 (f := fun x => some (f x)) rfl h, reg_of_runS1 (f := fun x => some (f x)) rfl h', hfold _ _ hwrap]

/-- A command whose result always exists and is an angle leaves an angle in rd. -/
theorem isAngle_reg_of_runS1 {rd a : Reg} {f : Word → Option Word} {s t : State} (hf : ∀ x, ∃ v, f x = some v ∧ IsAngle v)
    (h : runS1 rd a f s = .next t) : IsAngle (t.reg rd) := by
  obtain ⟨v, hv, hangle⟩ := hf (s.reg a)
  rw [reg_of_runS1 hv h]
  exact hangle

/-- The cosine folds the sum with a quarter turn, which has one fold for operands that have one. -/
theorem cosWord_congr {x y : Word} (h : awrap x = awrap y) : cosWord x = cosWord y := by
  have hmod : x.toNat % 4096 = y.toNat % 4096 := by rw [← awrap_toNat, ← awrap_toNat, h]
  rw [cosWord_eq, cosWord_eq, hmod]

/-- Settles O27, command by command; ATAN2 by whether atan2f has a result. -/
theorem anglesAreFoldedAndInRange : Obligations.AnglesAreFoldedAndInRange := by
  refine ⟨fun mk hmk rd a s s' t t' hmod h h' => ?_, fun mk hmk rd a s t h => ?_, fun rd y x s t h => ?_⟩
  · simp only [List.mem_cons, List.not_mem_nil, or_false] at hmk
    rcases hmk with rfl | rfl | rfl | rfl
    · exact reg_eq_of_fold (f := awrap) (fun _ _ hw => hw) hmod h h'
    · exact reg_eq_of_fold (f := sinWord) (fun _ _ hw => by rw [sinWord, sinWord, hw]) hmod h h'
    · exact reg_eq_of_fold (f := cosWord) (fun _ _ hw => cosWord_congr hw) hmod h h'
    · exact reg_eq_of_fold (f := tanWord) (fun _ _ hw => by rw [tanWord, tanWord, hw]) hmod h h'
  · simp only [List.mem_cons, List.not_mem_nil, or_false] at hmk
    rcases hmk with rfl | rfl | rfl | rfl
    · exact isAngle_reg_of_runS1 (fun x => ⟨awrap x, rfl, isAngle_awrap x⟩) h
    · exact isAngle_reg_of_runS1 exists_atan2f_one_eq_angle h
    · exact isAngle_reg_of_runS1 exists_asinWord_eq_angle h
    · exact isAngle_reg_of_runS1 exists_acosWord_eq_angle h
  · cases hv : atan2f (s.reg y) (s.reg x) with
    | some v =>
      obtain ⟨u, hu, hwrote⟩ := runS2_wrote (rd := rd) hv
      cases h.symm.trans hu
      exact .inl (hwrote.value ▸ isAngle_atan2f hv)
    | none =>
      obtain ⟨u, hu, htrapped⟩ := runS2_trapped (rd := rd) hv
      cases h.symm.trans hu
      exact .inr htrapped

end Sys2Proof.Proofs

/-! Every command as one function of its source words (10_state.md section 5). -/

namespace Sys2Proof.Proofs

open Sys2Proof Sys2Proof.Machine Sys2Proof.Statements

/-- A function of one source word, on the list of a command's source words. -/
def onWord (f : Word → Option Word) : List Word → Option Word
  | [x] => f x
  | _ => none

/-- A function of two source words, on the list of a command's source words. -/
def onWords2 (f : Word → Word → Option Word) : List Word → Option Word
  | [x, y] => f x y
  | _ => none

/-- A function of three source words, on the list of a command's source words. -/
def onWords3 (f : Word → Word → Word → Option Word) : List Word → Option Word
  | [x, y, z] => f x y z
  | _ => none

/-- What a command makes of its source words; none is DivideByZero. `exec_eq_finish` ties it to `exec`. -/
def resultOf : Instr → List Word → Option Word
  | .add _ _ _ => onWords2 fun x y => some (xadd x y)
  | .sub _ _ _ => onWords2 fun x y => some (xsub x y)
  | .mul _ _ _ => onWords2 fun x y => some (xmul x y)
  | .div _ _ _ => onWords2 xdivGuarded
  | .mod _ _ _ => onWords2 modWords
  | .abs _ _ => onWord fun x => some (xabs x)
  | .min _ _ _ => onWords2 fun x y => some (minWord x y)
  | .max _ _ _ => onWords2 fun x y => some (maxWord x y)
  | .clamp _ _ _ _ => onWords3 fun x l h => some (clampWord x l h)
  | .floor _ _ => onWord fun x => some (xfloor x)
  | .ceil _ _ => onWord fun x => some (ceilWord x)
  | .round _ _ => onWord fun x => some (roundWord x)
  | .lerp _ _ _ _ => onWords3 fun x y u => some (lerpWord x y u)
  | .awrap _ _ => onWord fun x => some (awrap x)
  | .sin _ _ => onWord fun x => some (sinWord x)
  | .cos _ _ => onWord fun x => some (cosWord x)
  | .tan _ _ => onWord fun x => some (tanWord x)
  | .atan2 _ _ _ => onWords2 atan2f
  | .atan _ _ => onWord fun x => atan2f x Config.xint1
  | .asin _ _ => onWord asinWord
  | .acos _ _ => onWord acosWord
  | .sqrt _ _ => onWord fun x => some (sqrtf x)
  | .ldh _ imm => fun _ => some (ldhWord imm)
  | .ldl _ imm => onWord fun old => some (ldlWord old imm)
  | .mov _ _ => onWord some

/-- Every command notes its sources as read and ends with its result. -/
theorem exec_eq_finish (i : Instr) (s : State) :
    exec i s = .next ((s.noteReads (sources i)).finish (dest i) (resultOf i ((sources i).map s.reg))) := by
  cases i
  case ldh rd imm => rw [sources, State.noteReads_nil]; rfl
  all_goals rfl

/-- Only DIV, MOD and ATAN2 can raise DivideByZero: of the others, ATAN, ASIN and ACOS always find an angle, and the rest are
total by their form (60_exceptions.md R221). -/
theorem mnemonic_of_resultOf_eq_none {i : Instr} {s : State} (h : resultOf i ((sources i).map s.reg) = none) :
    i.mnemonic = "DIV" ∨ i.mnemonic = "MOD" ∨ i.mnemonic = "ATAN2" := by
  cases i
  case div => exact .inl rfl
  case mod => exact .inr (.inl rfl)
  case atan2 => exact .inr (.inr rfl)
  case atan rd a =>
    obtain ⟨v, hv⟩ := exists_atan2f_one_eq_some (s.reg a)
    cases h.symm.trans hv
  case asin rd a =>
    obtain ⟨v, hv, -⟩ := exists_asinWord_eq_angle (s.reg a)
    cases h.symm.trans hv
  case acos rd a =>
    obtain ⟨v, hv⟩ := exists_acosWord_eq_some (s.reg a)
    cases h.symm.trans hv
  all_goals cases h

/-- Settles O44: the function is `resultOf`. -/
theorem commandsAreFunctionsOfTheirSources : Obligations.CommandsAreFunctionsOfTheirSources := by
  refine fun i => ⟨resultOf i, fun s => ⟨_, exec_eq_finish i s, ?_⟩⟩
  split
  case h_1 v hv =>
    rw [hv, State.finish_some]
    exact wrote_noteReads_writeReg ..
  case h_2 hnone =>
    rw [hnone, State.finish_none]
    exact ⟨trapped_noteReads_raise .., mnemonic_of_resultOf_eq_none hnone⟩

end Sys2Proof.Proofs

/-! What a step can do, as one inductive relation: every statement about all steps is a split of its cases. -/

namespace Sys2Proof.Proofs

open Sys2Proof Sys2Proof.Machine Sys2Proof.Statements

/-- Everything a step that answers a next state can have done, by the host action it took (20_memory.md R52,
70_reset_and_hazards.md R260). `stepEffect_of_step` ties it to `step`. -/
inductive StepEffect (s : State) : State → Prop
  | idle (hp : s.pending = []) : StepEffect s s
  | read {offset rest} (hp : s.pending = .access (.read offset 32) :: rest) :
      StepEffect s ((s.accept rest).answer ((s.accept rest).readSlot (portSlot offset)))
  | wrote {offset w rest i} (v : Word) (ho : offset % 256 < 4) (hd : decode w = .ok i)
      (hp : s.pending = .access (.write offset 32 w) :: rest) :
      StepEffect s (((s.accept rest).noteReads (sources i)).writeReg (dest i) v)
  | divideByZero {offset w rest i} (ho : offset % 256 < 4) (hd : decode w = .ok i)
      (hp : s.pending = .access (.write offset 32 w) :: rest) :
      StepEffect s (((s.accept rest).noteReads (sources i)).raise .divideByZero)
  | illegalCommand {offset w rest} (ho : offset % 256 < 4) (hp : s.pending = .access (.write offset 32 w) :: rest) :
      StepEffect s ((s.accept rest).raise .illegalCommand)
  | statusWrite {offset v rest} (ho : offset % 256 / 4 = 1) (hp : s.pending = .access (.write offset 32 v) :: rest) :
      StepEffect s ((s.accept rest).writeStatus v)
  | regWrite {offset v rest r} (ho : offset % 256 / 4 = 16 + r.val)
      (hp : s.pending = .access (.write offset 32 v) :: rest) : StepEffect s ((s.accept rest).writeReg r v)
  | reservedWrite {offset v rest} (hp : s.pending = .access (.write offset 32 v) :: rest) : StepEffect s (s.accept rest)
  | reset {lost rest} (hp : s.pending = .reset lost :: rest) : StepEffect s (s.accept rest).applyReset

/-- The slot numbers of a slot of the port (20_memory.md R52). -/
def HasNumber : PortSlot → Nat → Prop
  | .cmd, n => n = 0
  | .status, n => n = 1
  | .xreg r, n => n = 16 + r.val
  | .reserved, n => 2 ≤ n

theorem hasNumber_portSlot (offset : Nat) : HasNumber (portSlot offset) (offset % 256 / 4) := by
  rcases portSlot_cases offset with ⟨ho, h⟩ | ⟨ho, h⟩ | ⟨r, ho, h⟩ | ⟨⟨ho, -⟩, h⟩ <;> rw [h] <;> exact ho

theorem number_of_portSlot {offset : Nat} {slot : PortSlot} (h : portSlot offset = slot) :
    HasNumber slot (offset % 256 / 4) := h ▸ hasNumber_portSlot offset

/-- A word at CMD: a command that writes or raises DivideByZero, or no command. -/
theorem stepEffect_of_issue {s t : State} {offset : Nat} {w : Word} {rest : List HostAction}
    (hp : s.pending = .access (.write offset 32 w) :: rest) (ho : offset % 256 < 4) (h : issue w (s.accept rest) = .next t) :
    StepEffect s t := by
  rcases issue_cases w (s.accept rest) with ⟨i, hd, hi⟩ | ⟨e, -, hi⟩
  · cases h.symm.trans (hi.trans (exec_eq_finish i _))
    rcases finish_cases ((s.accept rest).noteReads (sources i)) (dest i) (resultOf i ((sources i).map (s.accept rest).reg))
      with ⟨v, -, hfinish⟩ | ⟨-, hfinish⟩ <;> rw [hfinish]
    · exact .wrote v ho hd hp
    · exact .divideByZero ho hd hp
  · cases h.symm.trans hi
    exact .illegalCommand ho hp

theorem stepEffect_of_step {s t : State} (h : step s = .next t) : StepEffect s t := by
  rcases step_cases h with ⟨hp, rfl⟩ | ⟨a, rest, hp, ha⟩ | ⟨lost, rest, hp, rfl⟩
  · exact .idle hp
  · rcases performAccess_cases ha with ⟨offset, rfl, rfl⟩ | ⟨offset, v, rfl, hslot, hi⟩ | ⟨offset, v, rfl, hslot, rfl⟩ |
      ⟨offset, v, r, rfl, hslot, rfl⟩ | ⟨offset, v, rfl, -, rfl⟩
    · exact .read hp
    · have ho : offset % 256 / 4 = 0 := number_of_portSlot hslot
      exact stepEffect_of_issue hp (by omega) hi
    · exact .statusWrite (number_of_portSlot hslot) hp
    · exact .regWrite (number_of_portSlot hslot) hp
    · exact .reservedWrite hp
  · exact .reset hp

/-- The step took the action at the front: the others are pending and the position is one more. -/
theorem StepEffect.pending_and_position {s t : State} {a : HostAction} {rest : List HostAction} (h : StepEffect s t)
    (hp : s.pending = a :: rest) : t.pending = rest ∧ t.position = s.position + 1 := by
  cases h
  case idle hnil => cases hp.symm.trans hnil
  all_goals
    rename_i hfront
    cases hp.symm.trans hfront
    exact ⟨rfl, rfl⟩

/-- Settles O5. -/
theorem stepRunsTheDecodedCommand : Obligations.StepRunsTheDecodedCommand := by
  intro s rest offset w i ho hp hd
  rw [step_write_cmd (by omega) hp, issue, hd]
  rfl

/-- Settles O6. -/
theorem stepTakesOneHostAction : Obligations.StepTakesOneHostAction :=
  ⟨fun s hp => by rw [step, hp], fun _ _ _ _ hp h => (stepEffect_of_step h).pending_and_position hp⟩

end Sys2Proof.Proofs

/-! What every step keeps: registers, flags, the exception record and the invariant (10_state.md, 60_exceptions.md section 2). -/

namespace Sys2Proof.Proofs

open Sys2Proof Sys2Proof.Machine Sys2Proof.Statements

/-! ### Registers (10_state.md section 1) -/

/-- Settles O45: of a step's effects only a command's result, a host write and a reset touch a register. -/
theorem registersChangeOnlyByWrites : Obligations.RegistersChangeOnlyByWrites := by
  intro s t r hstep hne
  cases stepEffect_of_step hstep with
  | @wrote _ _ _ i v ho hd hp =>
    by_cases hr : r = dest i
    · exact .inl ⟨_, _, _, _, hp, ho, hd, hr.symm, rfl, hr ▸ State.isWritten_writeReg_self ..⟩
    · exact absurd (State.reg_writeReg_ne _ v hr) hne
  | @regWrite _ v _ q ho hp =>
    by_cases hr : r = q
    · subst hr
      rw [State.reg_writeReg_self]
      exact .inr (.inl ⟨_, _, hp, ho, State.isWritten_writeReg_self ..⟩)
    · exact absurd (State.reg_writeReg_ne _ v hr) hne
  | reset hp => exact .inr (.inr ⟨_, _, hp, State.isWritten_applyReset ..⟩)
  | _ => exact absurd rfl hne

/-! ### Flags (10_state.md R25, R26) -/

@[simp] theorem flagSet_accept (s : State) (rest : List HostAction) (c : Cause) :
    (s.accept rest).flagSet c = s.flagSet c := rfl
@[simp] theorem flagSet_noteReads (s : State) (rs : List Reg) (c : Cause) : (s.noteReads rs).flagSet c = s.flagSet c := rfl

/-- An exception sets the flag of its cause and no other. -/
theorem flagSet_raise (s : State) (c d : Cause) : (s.raise c).flagSet d = (s.flagSet d || decide (d.code = c.code)) :=
  setFlag_getLsbD c s.status d.code

theorem flagSet_raise_self (s : State) (c : Cause) : (s.raise c).flagSet c = true := by
  rw [flagSet_raise, decide_eq_true rfl, Bool.or_true]

/-- A write to STATUS clears the flags whose bits it has. -/
theorem flagSet_writeStatus (s : State) (v : Word) (c : Cause) :
    (s.writeStatus v).flagSet c = (s.flagSet c && !v.getLsbD c.code) := by
  have hcode : c.code < 2 := by cases c <;> decide
  rw [State.flagSet, State.writeStatus_status, clearFlags_getLsbD, decide_eq_true hcode, Bool.true_and]
  rfl

/-- fault_o follows the flags (10_state.md R30). -/
theorem faultO_iff (s : State) : s.faultO = true ↔ ∃ c, s.flagSet c = true := by
  rw [State.faultO, Bool.or_eq_true]
  constructor
  · rintro (h | h)
    · exact ⟨.divideByZero, h⟩
    · exact ⟨.illegalCommand, h⟩
  · rintro ⟨_ | _, h⟩
    · exact .inl h
    · exact .inr h

/-- What took a flag from 1 to 0: of a step's effects only a write to STATUS and a reset clear one. -/
theorem StepEffect.cleared {s t : State} {c : Cause} (h : StepEffect s t) (hs : s.flagSet c = true)
    (ht : t.flagSet c = false) :
    (∃ offset v rest, s.pending = .access (.write offset 32 v) :: rest ∧ offset % 256 / 4 = 1 ∧ v.getLsbD c.code = true) ∨
    (∃ lost rest, s.pending = .reset lost :: rest) := by
  cases h with
  | divideByZero ho hd hp =>
    rw [flagSet_raise] at ht
    exact absurd (Bool.or_eq_false_iff.mp ht).1 (by simpa using hs)
  | illegalCommand ho hp =>
    rw [flagSet_raise] at ht
    exact absurd (Bool.or_eq_false_iff.mp ht).1 (by simpa using hs)
  | @statusWrite _ v _ ho hp =>
    rw [flagSet_writeStatus] at ht
    have hv : v.getLsbD c.code = true := by simpa [hs] using ht
    exact .inl ⟨_, _, _, hp, ho, hv⟩
  | reset hp => exact .inr ⟨_, _, hp⟩
  | _ => exact absurd (hs.symm.trans ht) (by decide)

/-- Settles O46; where fault_o falls, so does a flag. -/
theorem flagsStickUntilClearedOrReset : Obligations.FlagsStickUntilClearedOrReset := by
  refine ⟨fun s t c hstep hs ht => (stepEffect_of_step hstep).cleared hs ht, fun s t hstep hs ht => ?_, faultO_iff⟩
  obtain ⟨c, hc⟩ := (faultO_iff s).mp hs
  have hfall : t.flagSet c = false := by
    by_contra hflag
    exact absurd ((faultO_iff t).mpr ⟨c, by simpa using hflag⟩) (by simp [ht])
  rcases (stepEffect_of_step hstep).cleared hc hfall with ⟨offset, v, rest, hp, ho, -⟩ | hreset
  · exact .inl ⟨offset, v, rest, hp, ho⟩
  · exact .inr hreset

/-! ### The exception record (60_exceptions.md R225, R227) -/

/-- Settles O47: of a step's effects only the two exceptions touch the record. -/
theorem exceptionRecordOnlyGrows : Obligations.ExceptionRecordOnlyGrows := by
  intro s t hstep
  cases stepEffect_of_step hstep with
  | divideByZero => exact .inr ⟨.divideByZero, rfl, rfl, flagSet_raise_self .., fun _ => rfl⟩
  | illegalCommand => exact .inr ⟨.illegalCommand, rfl, rfl, flagSet_raise_self .., fun _ => rfl⟩
  | _ => exact .inl rfl

/-! ### The invariant -/

/-- A state that has taken a host action and not yet performed it: the invariant holds, and no exception and no answer has the
position of this action yet. -/
structure Accepted (s : State) : Prop where
  consistent : Consistent s
  exceptionsBefore : ∀ e ∈ s.exceptions, e.position < s.position
  answersBefore : ∀ e ∈ s.returned, e.position < s.position

theorem accepted_accept {s : State} (h : Consistent s) (rest : List HostAction) : Accepted (s.accept rest) where
  consistent :=
    { h with
      past := fun e he => (h.past e he).trans (Nat.le_succ _)
      pastUninits := fun e he => (h.pastUninits e he).trans (Nat.le_succ _)
      pastAnswers := fun e he => (h.pastAnswers e he).trans (Nat.le_succ _) }
  exceptionsBefore e he := Nat.lt_succ_of_le (h.past e he)
  answersBefore e he := Nat.lt_succ_of_le (h.pastAnswers e he)

/-- The reads of a command are recorded at its own position. -/
theorem accepted_noteReads {s : State} (h : Accepted s) (rs : List Reg) : Accepted (s.noteReads rs) where
  consistent :=
    { h.consistent with
      pastUninits := fun e he => by
        rcases List.mem_append.mp he with hold | hnew
        · exact h.consistent.pastUninits e hold
        · obtain ⟨r, -, -, rfl⟩ := (s.mem_uninitEvents rs e).mp hnew
          exact le_rfl }
  exceptionsBefore := h.exceptionsBefore
  answersBefore := h.answersBefore

/-- An entry behind all others keeps a list in order. -/
theorem pairwise_lt_append_singleton {l : List Nat} {n : Nat} (hl : l.Pairwise (· < ·)) (hn : ∀ m ∈ l, m < n) :
    (l ++ [n]).Pairwise (· < ·) :=
  List.pairwise_append.mpr ⟨hl, List.pairwise_singleton .., fun m hm k hk => by
    rw [List.mem_singleton.mp hk]
    exact hn m hm⟩

theorem code_injective : Function.Injective Cause.code
  | .divideByZero, .divideByZero, _ => rfl
  | .illegalCommand, .illegalCommand, _ => rfl

theorem consistent_raise {s : State} (h : Accepted s) (c : Cause) : Consistent (s.raise c) :=
  { h.consistent with
    reserved := fun k hk => by
      have hcode : k ≠ c.code := by cases c <;> simp only [Cause.code] <;> omega
      rw [State.raise_status, setFlag_getLsbD, h.consistent.reserved k hk, decide_eq_false hcode, Bool.or_false]
    explained := fun d hd => by
      rw [flagSet_raise, Bool.or_eq_true, decide_eq_true_iff] at hd
      rcases hd with hold | hnew
      · obtain ⟨e, he, hcause⟩ := h.consistent.explained d hold
        exact ⟨e, List.mem_append_left _ he, hcause⟩
      · exact ⟨⟨s.position, c⟩, List.mem_append_right _ (List.mem_singleton_self _), code_injective hnew.symm⟩
    ordered := by
      rw [State.raise_exceptions, List.map_append]
      refine pairwise_lt_append_singleton h.consistent.ordered fun m hm => ?_
      obtain ⟨e, he, rfl⟩ := List.mem_map.mp hm
      exact h.exceptionsBefore e he
    past := fun e he => by
      rcases List.mem_append.mp he with hold | hnew
      · exact h.consistent.past e hold
      · rw [List.mem_singleton.mp hnew]
        exact le_rfl }

theorem consistent_answer {s : State} (h : Accepted s) (v : Word) : Consistent (s.answer v) :=
  { h.consistent with
    answersOrdered := by
      rw [State.answer_returned, List.map_append]
      refine pairwise_lt_append_singleton h.consistent.answersOrdered fun m hm => ?_
      obtain ⟨e, he, rfl⟩ := List.mem_map.mp hm
      exact h.answersBefore e he
    pastAnswers := fun e he => by
      rcases List.mem_append.mp he with hold | hnew
      · exact h.consistent.pastAnswers e hold
      · rw [List.mem_singleton.mp hnew]
        exact le_rfl }

/-- A cleared flag needs no explanation, and a flag that stays keeps its own. -/
theorem consistent_writeStatus {s : State} (h : Consistent s) (v : Word) : Consistent (s.writeStatus v) :=
  { h with
    reserved := fun k hk => by rw [State.writeStatus_status, clearFlags_getLsbD, h.reserved k hk, Bool.false_and]
    explained := fun c hc => by
      rw [flagSet_writeStatus, Bool.and_eq_true] at hc
      exact h.explained c hc.1 }

theorem consistent_writeReg {s : State} (h : Consistent s) (r : Reg) (v : Word) : Consistent (s.writeReg r v) := { h with }

theorem flagSet_of_status_eq_zero {s : State} (h : s.status = 0) (c : Cause) : s.flagSet c = false := by
  rw [State.flagSet, h]
  exact BitVec.getLsbD_zero

theorem consistent_applyReset {s : State} (h : Consistent s) : Consistent s.applyReset :=
  { h with
    reserved := fun _ _ => BitVec.getLsbD_zero
    explained := fun c hc => absurd (hc.symm.trans (flagSet_of_status_eq_zero rfl c)) (by decide) }

/-- Settles O48, by what the step did. -/
theorem stepKeepsConsistency : Obligations.StepKeepsConsistency := by
  intro s t hs hstep
  cases stepEffect_of_step hstep with
  | idle => exact hs
  | read => exact consistent_answer (accepted_accept hs _) _
  | wrote v => exact consistent_writeReg (accepted_noteReads (accepted_accept hs _) _).consistent _ v
  | divideByZero => exact consistent_raise (accepted_noteReads (accepted_accept hs _) _) _
  | illegalCommand => exact consistent_raise (accepted_accept hs _) _
  | statusWrite => exact consistent_writeStatus (accepted_accept hs _).consistent _
  | regWrite => exact consistent_writeReg (accepted_accept hs _).consistent _ _
  | reservedWrite => exact (accepted_accept hs _).consistent
  | reset => exact consistent_applyReset (accepted_accept hs _).consistent

/-- Settles O49: STATUS is 0 and every record is empty. -/
theorem resetIsConsistent : Obligations.ResetIsConsistent where
  reserved _ _ := BitVec.getLsbD_zero
  explained c hc := absurd (hc.symm.trans (flagSet_of_status_eq_zero rfl c)) (by decide)
  ordered := .nil
  past _ he := absurd he List.not_mem_nil
  pastUninits _ he := absurd he List.not_mem_nil
  answersOrdered := .nil
  pastAnswers _ he := absurd he List.not_mem_nil

end Sys2Proof.Proofs

/-! The host port (20_memory.md section 2) and reset (70_reset_and_hazards.md section 1), action by action. -/

namespace Sys2Proof.Proofs

open Sys2Proof Sys2Proof.Machine Sys2Proof.Statements

/-! ### Every 32-bit access answers a next state (R53, R54) -/

theorem issue_next (w : Word) (s : State) : ∃ t, issue w s = .next t := by
  rcases issue_cases w s with ⟨i, -, h⟩ | ⟨e, -, h⟩ <;> rw [h]
  · exact exec_next i s
  · exact ⟨_, rfl⟩

theorem writeSlot_next (slot : PortSlot) (v : Word) (s : State) : ∃ t, writeSlot slot v s = .next t := by
  cases slot with
  | cmd => exact issue_next v s
  | _ => exact ⟨_, rfl⟩

theorem performAccess_next {a : HostAccess} (h : a.wellFormed = true) (s : State) : ∃ t, performAccess a s = .next t := by
  cases a with
  | read offset bits => exact ⟨_, if_pos (beq_iff_eq.mp h)⟩
  | write offset bits v =>
    obtain ⟨t, ht⟩ := writeSlot_next (portSlot offset) v s
    exact ⟨t, (if_pos (beq_iff_eq.mp h)).trans ht⟩

theorem step_access {s : State} {a : HostAccess} {rest : List HostAction} (hp : s.pending = .access a :: rest) :
    step s = performAccess a (s.accept rest) := by
  rw [step, hp]
  rfl

/-- Settles O56, for reads and for writes by their width. -/
theorem onlyWordAccessesAreTaken : Obligations.OnlyWordAccessesAreTaken := by
  rintro s rest a bits hp ⟨offset, rfl | ⟨v, rfl⟩⟩ <;> rw [step_access hp]
  · exact ⟨fun hne => if_neg hne, fun heq => performAccess_next (a := .read offset bits) (beq_iff_eq.mpr heq) _⟩
  · exact ⟨fun hne => if_neg hne, fun heq => performAccess_next (a := .write offset bits v) (beq_iff_eq.mpr heq) _⟩

/-! ### What an offset reaches (R52, R54) -/

/-- 0xFC keeps bits 7 to 2, which are the slot number. -/
theorem slotNumber_and_mask (offset : Nat) : (offset &&& 0xFC) % 256 / 4 = offset % 256 / 4 := by
  have hdiv : (offset &&& 0xFC) / 4 = offset / 4 % 64 := by
    have hshift := Nat.shiftRight_and_distrib (a := offset) (b := 0xFC) (i := 2)
    rw [Nat.shiftRight_eq_div_pow, Nat.shiftRight_eq_div_pow] at hshift
    exact hshift.trans (Nat.and_two_pow_sub_one_eq_mod _ 6)
  omega

/-- Only the slot number of an offset is seen. -/
theorem portSlot_congr {o o' : Nat} (h : o % 256 / 4 = o' % 256 / 4) : portSlot o = portSlot o' := by
  simp only [portSlot, h]

theorem portSlot_and_mask (offset : Nat) : portSlot (offset &&& 0xFC) = portSlot offset :=
  portSlot_congr (slotNumber_and_mask offset)

/-- The window's base is a multiple of its size. -/
theorem portSlot_hostBase_add (offset : Nat) : portSlot (Config.hostBase + offset) = portSlot offset :=
  portSlot_congr (by rw [Config.hostBase]; omega)

/-- Settles O57. -/
theorem offsetBitsOneAndZeroAreNotDecoded : Obligations.OffsetBitsOneAndZeroAreNotDecoded := by
  refine ⟨fun s offset v => ⟨?_, ?_, performAccess_next rfl s, performAccess_next rfl s⟩,
    fun offset => ⟨portSlot_hostBase_add offset, Nat.add_sub_cancel_left ..⟩⟩
  · rw [performAccess, performAccess, portSlot_and_mask]
  · rw [performAccess, performAccess, portSlot_and_mask]

/-! ### Reads (R52, R55) -/

/-- A read of STATUS returns its two flags. -/
theorem statusRead_toNat (s : State) : s.statusRead.toNat = s.dz.toNat + 2 * s.ill.toNat := by
  have hand : s.statusRead.toNat = s.status.toNat % 4 :=
    (BitVec.toNat_and ..).trans (Nat.and_two_pow_sub_one_eq_mod s.status.toNat 2)
  have hdz : s.dz.toNat = s.status.toNat % 2 := by
    rw [State.dz, BitVec.getLsbD, Nat.toNat_testBit, pow_zero, Nat.div_one]
  have hill : s.ill.toNat = s.status.toNat / 2 % 2 := by
    rw [State.ill, BitVec.getLsbD, Nat.toNat_testBit, pow_one]
  omega

theorem hostReg_of_isWritten {s : State} {r : Reg} (h : s.isWritten r = true) : s.hostReg r = s.reg r := if_pos h

theorem hostReg_of_not_isWritten {s : State} {r : Reg} (h : s.isWritten r = false) :
    s.hostReg r = Config.unspecifiedWord s.epoch r := by rw [State.hostReg, h]; rfl

theorem step_read {s : State} {rest : List HostAction} {offset : Nat} (hp : s.pending = .access (.read offset 32) :: rest) :
    step s = .next ((s.accept rest).answer ((s.accept rest).readSlot (portSlot offset))) :=
  step_access hp

/-- Settles O54, by the slot that the offset reaches. -/
theorem hostReadsFollowThePortMap : Obligations.HostReadsFollowThePortMap := by
  intro s rest offset hp
  refine ⟨_, step_read hp, fun ho => ?_, fun r ho hw => ?_, fun r ho hw => ?_, fun hstatus hreg => ?_⟩
  · rw [portSlot_eq_status ho]
    exact statusRead_toNat s
  · rw [portSlot_eq_xreg ho]
    exact hostReg_of_isWritten (s := s.accept rest) hw
  · rw [portSlot_eq_xreg ho]
    exact hostReg_of_not_isWritten (s := s.accept rest) hw
  · rcases portSlot_cases offset with ⟨-, hslot⟩ | ⟨ho, -⟩ | ⟨r, ho, -⟩ | ⟨-, hslot⟩
    · rw [hslot]; rfl
    · exact absurd ho hstatus
    · exact absurd ⟨by omega, by omega⟩ hreg
    · rw [hslot]; rfl

/-! ### Writes (R52) -/

theorem step_write {s : State} {rest : List HostAction} {offset : Nat} {v : Word}
    (hp : s.pending = .access (.write offset 32 v) :: rest) : step s = writeSlot (portSlot offset) v (s.accept rest) :=
  step_access hp

/-- Settles O55. -/
theorem hostWritesFollowThePortMap : Obligations.HostWritesFollowThePortMap := by
  intro s rest offset v hp
  refine ⟨fun r ho => ⟨(s.accept rest).writeReg r v, ?_, ?_⟩, fun hlow hreg => ?_⟩
  · rw [step_write hp, portSlot_eq_xreg ho, writeSlot]
  · have hwrote := wrote_noteReads_writeReg (s.accept rest) [] r v
    rw [State.noteReads_nil] at hwrote
    exact hwrote
  · rw [step_write hp, portSlot_eq_reserved hlow hreg, writeSlot]
    rfl

/-- Settles O53. -/
theorem statusWriteClearsFlags : Obligations.StatusWriteClearsFlags := by
  intro s rest offset v ho hp
  refine ⟨(s.accept rest).writeStatus v, ?_, fun k => ?_, rfl⟩
  · rw [step_write hp, portSlot_eq_status ho, writeSlot]
  · rw [State.writeStatus_status, clearFlags_getLsbD]
    by_cases hcleared : k < 2 ∧ v.getLsbD k = true
    · simp [hcleared]
    · have hkept : (decide (k < 2) && v.getLsbD k) = false := by simpa using hcleared
      rw [if_neg hcleared, hkept, Bool.not_false, Bool.and_true, State.accept_status]

/-! ### Reset -/

theorem isWritten_reset (r : Reg) : State.reset.isWritten r = false := by
  simp [State.isWritten, State.reset, Vector.get_eq_getElem]

theorem faultO_of_status_eq_zero {s : State} (h : s.status = 0) : s.faultO = false := by
  rw [State.faultO, State.dz, State.ill, h]
  rfl

/-- Settles O52: the step does not look at what the reset cut off. -/
theorem resetClearsStatusAndMarks : Obligations.ResetClearsStatusAndMarks :=
  ⟨fun s rest => ⟨(s.accept rest).applyReset, fun _ => rfl, rfl, faultO_of_status_eq_zero rfl,
      State.isWritten_applyReset _, rfl, rfl, rfl, rfl⟩,
    rfl, faultO_of_status_eq_zero rfl, isWritten_reset, rfl⟩

end Sys2Proof.Proofs

/-! Runs: every run of 32-bit actions ends, and when a run has an observation (70_reset_and_hazards.md section 5, section 6). -/

namespace Sys2Proof.Proofs

open Sys2Proof Sys2Proof.Machine Sys2Proof.Statements

/-! ### Runs of 32-bit actions -/

theorem step_next_of_wellFormed {s : State} {a : HostAction} {rest : List HostAction} (hp : s.pending = a :: rest)
    (h : a.wellFormed = true) : ∃ t, step s = .next t := by
  cases a with
  | access acc => exact step_access hp ▸ performAccess_next h _
  | reset lost => exact ⟨_, by rw [step, hp]; rfl⟩

theorem StepEffect.exceptions_prefix {s t : State} (h : StepEffect s t) : s.exceptions <+: t.exceptions := by
  cases h with
  | divideByZero => exact List.prefix_append ..
  | illegalCommand => exact List.prefix_append ..
  | _ => exact List.prefix_rfl

theorem StepEffect.returned_prefix {s t : State} (h : StepEffect s t) : s.returned <+: t.returned := by
  cases h with
  | read => exact List.prefix_append ..
  | _ => exact List.prefix_rfl

/-- Settles O50, by induction on the pending actions: a step takes the first and leaves the others. -/
theorem everyRunOfWordAccessesEnds : Obligations.EveryRunOfWordAccessesEnds := by
  intro s hwf
  induction hp : s.pending generalizing s with
  | nil => exact ⟨s, rfl, hp, rfl, List.prefix_rfl, List.prefix_rfl⟩
  | cons a rest ih =>
    rw [hp] at hwf
    obtain ⟨u, hu⟩ := step_next_of_wellFormed hp (hwf a List.mem_cons_self)
    have heffect := stepEffect_of_step hu
    obtain ⟨hpending, hposition⟩ := heffect.pending_and_position hp
    obtain ⟨t, hrun, hnil, hpos, hexc, hret⟩ := ih u
      (fun b hb => hwf b (List.mem_cons_of_mem _ (hpending ▸ hb))) hpending
    exact ⟨t, (run_succ hu _).trans hrun, hnil, by rw [hpos, hposition, List.length_cons]; omega,
      heffect.exceptions_prefix.trans hexc, heffect.returned_prefix.trans hret⟩

/-! ### When a run has an observation (R266) -/

/-- The verdict on a run is that of its first read of an unwritten register. -/
theorem observation_eq_error_iff (s : State) (e : UninitEvent) :
    s.observation = .error (.uninit e) ↔ ∃ rest, s.uninits = e :: rest := by
  unfold State.observation
  split <;> simp_all

/-- A run has an observation exactly where no command of it read an unwritten register. -/
theorem observation_eq_ok_iff (s : State) : (∃ o, s.observation = .ok o) ↔ s.uninits = [] := by
  unfold State.observation
  split <;> simp_all

/-- The record of unwritten reads after a command. -/
theorem uninits_of_exec {i : Instr} {s t : State} (h : exec i s = .next t) :
    t.uninits = s.uninits ++ s.uninitEvents (sources i) := by
  cases h.symm.trans (exec_eq_finish i s)
  rw [State.finish_uninits, State.noteReads_uninits]

theorem uninitEvents_ne_nil {s : State} {rs : List Reg} (h : ∃ r ∈ rs, s.isWritten r = false) : s.uninitEvents rs ≠ [] := by
  obtain ⟨r, hr, hw⟩ := h
  exact List.ne_nil_of_mem ((s.mem_uninitEvents rs _).mpr ⟨r, hr, hw, rfl⟩)

/-- No step takes an event from the record. -/
theorem StepEffect.uninits_prefix {s t : State} (h : StepEffect s t) : s.uninits <+: t.uninits := by
  cases h with
  | wrote => exact List.prefix_append ..
  | divideByZero => exact List.prefix_append ..
  | _ => exact List.prefix_rfl

/-- Only a command with an unwritten source adds to the record. -/
theorem StepEffect.uninits_eq {s t : State} (h : StepEffect s t)
    (hready : ∀ offset w i rest, s.pending = .access (.write offset 32 w) :: rest → offset % 256 < 4 → decode w = .ok i →
      Ready s (sources i)) : t.uninits = s.uninits := by
  cases h with
  | @wrote _ _ rest _ v ho hd hp =>
    rw [noteReads_of_ready (s := s.accept rest) (hready _ _ _ _ hp ho hd)]
    rfl
  | @divideByZero _ _ rest _ ho hd hp =>
    rw [noteReads_of_ready (s := s.accept rest) (hready _ _ _ _ hp ho hd)]
    rfl
  | _ => rfl

/-- Settles O51, all by the record of unwritten reads. -/
theorem unwrittenReadsLeaveNoObservation : Obligations.UnwrittenReadsLeaveNoObservation := by
  refine ⟨fun i s t hunwritten hexec => ?_, fun s t e hs hstep => ?_, fun i s t o hs hw hexec => ?_,
    fun s t o hs hstep hready => ?_, (observation_eq_ok_iff _).mpr rfl⟩
  · have hne : t.uninits ≠ [] := by
      rw [uninits_of_exec hexec]
      exact List.append_ne_nil_of_right_ne_nil _ (uninitEvents_ne_nil hunwritten)
    obtain ⟨e, rest, ht⟩ := List.exists_cons_of_ne_nil hne
    exact ⟨e, (observation_eq_error_iff t e).mpr ⟨rest, ht⟩⟩
  · obtain ⟨rest, hrest⟩ := (observation_eq_error_iff s e).mp hs
    obtain ⟨new, hnew⟩ := (stepEffect_of_step hstep).uninits_prefix
    exact (observation_eq_error_iff t e).mpr ⟨rest ++ new, by rw [← hnew, hrest, List.cons_append]⟩
  · rw [observation_eq_ok_iff, uninits_of_exec hexec, (observation_eq_ok_iff s).mp ⟨o, hs⟩,
      State.uninitEvents_of_written s _ hw, List.append_nil]
  · rw [observation_eq_ok_iff, (stepEffect_of_step hstep).uninits_eq hready, (observation_eq_ok_iff s).mp ⟨o, hs⟩]

end Sys2Proof.Proofs

/-! The two ROMs as integers (41_angle_trig.md R146, R148): the entries of each quadrant by those of the first, and what the tables
say of each other (R150). -/

namespace Sys2Proof.Proofs

open Sys2Proof Sys2Proof.Machine Sys2Proof.Statements

/-! ### Entries as integers -/

theorem toInt_s32_of_bounds {v : Int} (hlow : -2 ^ 31 ≤ v) (hhigh : v < 2 ^ 31) : (s32 v).toInt = v := by
  rw [toInt_s32, wrapped]
  omega

/-- A bound of the rows of a table bounds its entries; past the rows an entry is 0. -/
theorem entryAt_le {rows : List (List Nat)} {b : Nat} (h : ∀ row ∈ rows, ∀ x ∈ row, x ≤ b) (i : Nat) : entryAt rows i ≤ b := by
  have hrow : ∀ x ∈ rows.getD (i / 16) [], x ≤ b := by
    rw [List.getD_eq_getElem?_getD]
    cases hget : rows[i / 16]? with
    | none => simp
    | some row => exact h row (List.mem_of_getElem? hget)
  rw [entryAt, List.getD_eq_getElem?_getD]
  cases hget : (rows.getD (i / 16) [])[i % 16]? with
  | none => exact Nat.zero_le b
  | some x => exact hrow x (List.mem_of_getElem? hget)

theorem sinQuarter_le (i : Nat) : sinQuarter i ≤ 65536 := by
  unfold sinQuarter
  split
  · exact le_rfl
  · exact entryAt_le (by decide +kernel) i

theorem sinHalf_le (i : Nat) : sinHalf i ≤ 65536 := by
  unfold sinHalf
  split <;> exact sinQuarter_le _

theorem entryAt_tanRows_le (i : Nat) : entryAt tanRows i ≤ 42722796 := entryAt_le (by decide +kernel) i

/-- The first half turn of the sine is not negative. -/
theorem toInt_sinLut_of_lt {i : Nat} (h : i < 2048) : (sinLut i).toInt = sinHalf i := by
  have hle := sinHalf_le i
  rw [sinLut, if_pos h, toInt_s32_of_bounds (by omega) (by omega)]

/-- The second half turn is the first with its sign changed. -/
theorem toInt_sinLut_add_half (i : Nat) : (sinLut (2048 + i)).toInt = -(sinHalf i : Int) := by
  have hle := sinHalf_le i
  rw [sinLut, if_neg (by omega), Nat.add_sub_cancel_left, toInt_s32_of_bounds (by omega) (by omega)]

/-- The tangent is not negative below 90 degrees. -/
theorem toInt_tanLut_of_lt {i : Nat} (h : i < 1024) : (tanLut i).toInt = entryAt tanRows i := by
  have hle := entryAt_tanRows_le i
  rw [tanLut, if_pos h, toInt_s32_of_bounds (by omega) (by omega)]

/-- Beyond 90 degrees the tangent mirrors with its sign changed. -/
theorem toInt_tanLut_mirror {i : Nat} (h : i < 1024) : (tanLut (2048 - i)).toInt = -(entryAt tanRows i : Int) := by
  have hle := entryAt_tanRows_le i
  rw [tanLut, if_neg (by omega), if_neg (by omega), Nat.sub_sub_self (by omega), toInt_s32_of_bounds (by omega) (by omega)]

theorem sinHalf_of_le {i : Nat} (h : i ≤ 1024) : sinHalf i = sinQuarter i := if_pos h

theorem sinHalf_mirror {i : Nat} (h : i ≤ 1024) : sinHalf (2048 - i) = sinQuarter i := by
  unfold sinHalf
  split
  case isTrue hle =>
    obtain rfl : i = 1024 := by omega
    rfl
  case isFalse => rw [Nat.sub_sub_self (by omega)]

/-! ### The first quadrant (R150)

The tables are data that no shorter rule generates, so the kernel evaluates these bounds entry by entry. -/

/-- sin² + cos², each floored, is 1.0 less 0 to 2 raw units. -/
theorem quarter_squares : ∀ k < 1025,
    65534 ≤ sinQuarter k * sinQuarter k / 65536 + sinQuarter (1024 - k) * sinQuarter (1024 - k) / 65536 ∧
    sinQuarter k * sinQuarter k / 65536 + sinQuarter (1024 - k) * sinQuarter (1024 - k) / 65536 ≤ 65536 := by
  decide +kernel

/-- The quotient of sine by cosine is within 317 raw units of the tangent where the cosine is 2000 raw units or more. -/
theorem quarter_quotient : ∀ k < 1024, 2000 ≤ sinQuarter (1024 - k) →
    sinQuarter k * 65536 / sinQuarter (1024 - k) ≤ entryAt tanRows k + 317 ∧
    entryAt tanRows k ≤ sinQuarter k * 65536 / sinQuarter (1024 - k) + 317 := by
  decide +kernel

/-! ### Every angle from the first quadrant -/

/-- Sine, cosine and tangent of an angle are those of an angle `k` of the first quadrant, with the signs `σ` of the sine and `τ` of
the cosine (R146, R148). -/
structure FromQuarter (k : Nat) (σ τ sin cos tan : Int) : Prop where
  le : k ≤ 1024
  sinSign : σ = 1 ∨ σ = -1
  cosSign : τ = 1 ∨ τ = -1
  sin_eq : sin = σ * sinQuarter k
  cos_eq : cos = τ * sinQuarter (1024 - k)
  tan_eq : k < 1024 → tan = σ * τ * entryAt tanRows k

/-- The four quadrants, each half turn read forward from its start or backward from its end. -/
theorem exists_fromQuarter {j : Nat} (h : j < 4096) : ∃ k σ τ,
    FromQuarter k σ τ (sinLut j).toInt (sinLut ((j + 1024) % 4096)).toInt (tanLut (j % 2048)).toInt := by
  have hquadrant : (j < 1024) ∨ (∃ k, 1 ≤ k ∧ k ≤ 1024 ∧ j = 2048 - k) ∨ (∃ k < 1024, j = 2048 + k) ∨
      ∃ k, 1 ≤ k ∧ k ≤ 1024 ∧ j = 2048 + (2048 - k) := by
    by_cases h1 : j < 1024
    · exact .inl h1
    by_cases h2 : j < 2048
    · exact .inr (.inl ⟨2048 - j, by omega, by omega, by omega⟩)
    by_cases h3 : j < 3072
    · exact .inr (.inr (.inl ⟨j - 2048, by omega, by omega⟩))
    · exact .inr (.inr (.inr ⟨4096 - j, by omega, by omega, by omega⟩))
  rcases hquadrant with h1 | ⟨k, hk1, hk2, rfl⟩ | ⟨k, hk, rfl⟩ | ⟨k, hk1, hk2, rfl⟩
  · have hcos : (j + 1024) % 4096 = 2048 - (1024 - j) := by omega
    refine ⟨j, 1, 1, by omega, .inl rfl, .inl rfl, ?_, ?_, fun _ => ?_⟩
    · rw [toInt_sinLut_of_lt (by omega), sinHalf_of_le (by omega), one_mul]
    · rw [hcos, toInt_sinLut_of_lt (by omega), sinHalf_mirror (by omega), one_mul]
    · rw [Nat.mod_eq_of_lt (by omega), toInt_tanLut_of_lt h1, one_mul, one_mul]
  · have hcos : (2048 - k + 1024) % 4096 = 2048 + (1024 - k) := by omega
    refine ⟨k, 1, -1, hk2, .inl rfl, .inr rfl, ?_, ?_, fun hlt => ?_⟩
    · rw [toInt_sinLut_of_lt (by omega), sinHalf_mirror hk2, one_mul]
    · rw [hcos, toInt_sinLut_add_half, sinHalf_of_le (by omega), neg_one_mul]
    · rw [Nat.mod_eq_of_lt (by omega), toInt_tanLut_mirror hlt, one_mul, neg_one_mul]
  · have hcos : (2048 + k + 1024) % 4096 = 2048 + (2048 - (1024 - k)) := by omega
    refine ⟨k, -1, -1, by omega, .inr rfl, .inr rfl, ?_, ?_, fun _ => ?_⟩
    · rw [toInt_sinLut_add_half, sinHalf_of_le (by omega), neg_one_mul]
    · rw [hcos, toInt_sinLut_add_half, sinHalf_mirror (by omega), neg_one_mul]
    · rw [Nat.add_mod_left, Nat.mod_eq_of_lt (by omega), toInt_tanLut_of_lt hk, neg_one_mul, neg_neg, one_mul]
  · have hcos : (2048 + (2048 - k) + 1024) % 4096 = 1024 - k := by omega
    refine ⟨k, -1, 1, hk2, .inr rfl, .inl rfl, ?_, ?_, fun hlt => ?_⟩
    · rw [toInt_sinLut_add_half, sinHalf_mirror hk2, neg_one_mul]
    · rw [hcos, toInt_sinLut_of_lt (by omega), sinHalf_of_le (by omega), one_mul]
    · rw [Nat.add_mod_left, Nat.mod_eq_of_lt (by omega), toInt_tanLut_mirror hlt, mul_one, neg_one_mul]

theorem exists_fromQuarter_word (a : Word) :
    ∃ k σ τ, FromQuarter k σ τ (sinWord a).toInt (cosWord a).toInt (tanWord a).toInt := by
  have hfold : a.toNat % 4096 % 2048 = a.toNat % 2048 := Nat.mod_mod_of_dvd _ (by norm_num)
  rw [sinWord_eq, cosWord_eq, tanWord_eq, ← hfold]
  exact exists_fromQuarter (Nat.mod_lt _ (by norm_num))

/-! ### What the tables say of each other (R150) -/

/-- A square does not see the sign. -/
theorem toInt_xmul_self_of_sign {v : Word} {σ : Int} {n : Nat} (hσ : σ = 1 ∨ σ = -1) (hv : v.toInt = σ * n) (hn : n ≤ 65536) :
    (xmul v v).toInt = (n * n / 65536 : Nat) := by
  have hle : n * n ≤ 65536 * 65536 := Nat.mul_le_mul hn hn
  have hsquare : v.toInt * v.toInt = (n * n : Nat) := by
    rcases hσ with rfl | rfl <;> rw [hv] <;> push_cast <;> ring
  rw [toInt_xmul, hsquare, wrapped]
  omega

/-- A truncated quotient takes the signs of both sides. -/
theorem tdiv_of_signs {σ τ : Int} (hσ : σ = 1 ∨ σ = -1) (hτ : τ = 1 ∨ τ = -1) (n d : Nat) :
    Int.tdiv (σ * n) (τ * d) = σ * τ * (n / d : Nat) := by
  rcases hσ with rfl | rfl <;> rcases hτ with rfl | rfl <;> simp [Int.neg_tdiv, Int.tdiv_neg]

theorem FromQuarter.squares {k : Nat} {σ τ tan : Int} {s c : Word} (h : FromQuarter k σ τ s.toInt c.toInt tan) :
    -2 ≤ (xadd (xmul s s) (xmul c c)).toInt - 65536 ∧ (xadd (xmul s s) (xmul c c)).toInt - 65536 ≤ 0 := by
  obtain ⟨hlow, hhigh⟩ := quarter_squares k (Nat.lt_succ_of_le h.le)
  rw [xadd, toInt_s32, toInt_xmul_self_of_sign h.sinSign h.sin_eq (sinQuarter_le _),
    toInt_xmul_self_of_sign h.cosSign h.cos_eq (sinQuarter_le _), wrapped]
  omega

/-- A cosine of 2000 raw units or more leaves out 90 degrees, and its quotient does not wrap. -/
theorem FromQuarter.quotient {k : Nat} {σ τ tan : Int} {s c : Word} (h : FromQuarter k σ τ s.toInt c.toInt tan)
    (hc : 2000 ≤ c.toInt.natAbs) : ((xdiv s c).toInt - tan).natAbs ≤ 317 := by
  have hcos : 2000 ≤ sinQuarter (1024 - k) := by
    rcases h.cosSign with hτ | hτ <;> rw [h.cos_eq, hτ] at hc <;> omega
  have hlt : k < 1024 := by
    refine lt_of_le_of_ne h.le ?_
    rintro rfl
    exact absurd hcos (by decide)
  obtain ⟨hlow, hhigh⟩ := quarter_quotient k hlt hcos
  have htan := entryAt_tanRows_le k
  have hquot : (xdiv s c).toInt = σ * τ * (sinQuarter k * 65536 / sinQuarter (1024 - k) : Nat) := by
    have hnum : s.toInt * 65536 = σ * (sinQuarter k * 65536 : Nat) := by rw [h.sin_eq]; push_cast; ring
    rw [xdiv, tdiv, hnum, h.cos_eq, tdiv_of_signs h.sinSign h.cosSign]
    refine toInt_s32_of_bounds ?_ ?_ <;> rcases h.sinSign with rfl | rfl <;> rcases h.cosSign with rfl | rfl <;> omega
  rw [hquot, h.tan_eq hlt]
  rcases h.sinSign with rfl | rfl <;> rcases h.cosSign with rfl | rfl <;> omega

/-- Settles O30, from the first quadrant. -/
theorem tablesAgreeWithEachOther : Obligations.TablesAgreeWithEachOther := by
  intro a
  obtain ⟨k, σ, τ, h⟩ := exists_fromQuarter_word a
  refine ⟨h.squares, h.quotient, ?_⟩
  rw [cosWord, xadd_eq_add]
  rfl

end Sys2Proof.Proofs

/-! The two ROMs against the sine and the tangent over the real numbers (41_angle_trig.md section 3): a point is turned by π / 2048
step by step in exact integers, its distance from the true point of the unit circle is bounded, and each entry of a table is compared
with it. -/

namespace Sys2Proof.Proofs

open Sys2Proof Sys2Proof.Machine Sys2Proof.Statements

/-! ### Turning a point by π / 2048, in units of 2^-64 -/

/-- 2^64 times the cosine of π / 2048, rounded down. -/
def turnCos : Int := 18446722370224206389

/-- 2^64 times the sine of π / 2048, rounded down. -/
def turnSin : Int := 28296939910536374

/-- A point turned by π / 2048, each coordinate rounded down. -/
def turned (p : Int × Int) : Int × Int :=
  ((p.1 * turnCos - p.2 * turnSin) / 2 ^ 64, (p.1 * turnSin + p.2 * turnCos) / 2 ^ 64)

/-- The point of the unit circle at angle π n / 2048, up to rounding. -/
def circlePoint : Nat → Int × Int
  | 0 => (2 ^ 64, 0)
  | n + 1 => turned (circlePoint n)

/-- A point as a complex number. -/
noncomputable def asComplex (p : Int × Int) : ℂ := ⟨p.1 / 2 ^ 64, p.2 / 2 ^ 64⟩

/-- The angle π / 2048 of one step of the tables' first quadrant. -/
noncomputable def stepAngle : ℝ := Real.pi / 2048

theorem norm_le_of_parts {z : ℂ} {b : ℝ} (hre : |z.re| ≤ b) (him : |z.im| ≤ b) : ‖z‖ ≤ 2 * b :=
  (Complex.norm_le_abs_re_add_abs_im z).trans (by linarith)

/-- Rounding down to a multiple of 2^-64 changes a number by at most 2^-64. -/
theorem abs_floor_sub_le (n : Int) : |((n / 2 ^ 64 : Int) : ℝ) / 2 ^ 64 - n / 2 ^ 64 / 2 ^ 64| ≤ 1 / 2 ^ 64 := by
  have hlow : ((n / 2 ^ 64 : Int) : ℝ) * 2 ^ 64 ≤ n := by exact_mod_cast Int.ediv_mul_le n (by norm_num)
  have hhigh : (n : ℝ) < ((n / 2 ^ 64 : Int) + 1) * 2 ^ 64 := by
    exact_mod_cast Int.lt_ediv_add_one_mul_self n (by norm_num)
  rw [abs_le]
  constructor <;> linarith

/-- A turn is the product with the turning number, up to rounding. -/
theorem norm_turned_sub_le (p : Int × Int) :
    ‖asComplex (turned p) - asComplex p * asComplex (turnCos, turnSin)‖ ≤ 2 * (1 / 2 ^ 64) := by
  refine norm_le_of_parts ?_ ?_
  · have h := abs_floor_sub_le (p.1 * turnCos - p.2 * turnSin)
    convert h using 2
    simp only [asComplex, turned, Complex.sub_re, Complex.mul_re]
    push_cast
    ring
  · have h := abs_floor_sub_le (p.1 * turnSin + p.2 * turnCos)
    convert h using 2
    simp only [asComplex, turned, Complex.sub_im, Complex.mul_im]
    push_cast
    ring

/-! ### The turning number -/

/-- The sine between two bounds of its angle, by its cubic. -/
theorem sin_bounds {x a b : ℝ} (ha : 0 ≤ a) (hax : a ≤ x) (hxb : x ≤ b) (hb : b ≤ 1) :
    a - b ^ 3 / 6 - b ^ 5 / 100 ≤ Real.sin x ∧ Real.sin x ≤ b - a ^ 3 / 6 + b ^ 5 / 100 := by
  have hx : 0 ≤ x := ha.trans hax
  have hcubic := Real.sin_bound (x := x) (by rw [abs_of_nonneg hx]; linarith)
  rw [abs_of_nonneg hx, abs_le] at hcubic
  have hlow : a ^ 3 ≤ x ^ 3 := by gcongr
  have hhigh : x ^ 3 ≤ b ^ 3 := by gcongr
  have herror : x ^ 5 ≤ b ^ 5 := by gcongr
  constructor <;> linarith

theorem stepAngle_bounds : 0.0015339807878856412297 ≤ stepAngle ∧ stepAngle ≤ 0.0015339807878856412298 := by
  have hlow := Real.pi_gt_d20
  have hhigh := Real.pi_lt_d20
  rw [stepAngle]
  constructor <;> linarith

theorem abs_turnSin_sub_le : |turnSin / 2 ^ 64 - Real.sin stepAngle| ≤ 1 / 2 ^ 52 := by
  obtain ⟨hlow, hhigh⟩ := stepAngle_bounds
  obtain ⟨hl, hh⟩ := sin_bounds (by norm_num) hlow hhigh (by norm_num)
  norm_num [turnSin, abs_le] at *
  constructor <;> linarith

/-- The cosine by the sine of half the angle, which its cubic gives far more closely. -/
theorem abs_turnCos_sub_le : |turnCos / 2 ^ 64 - Real.cos stepAngle| ≤ 1 / 2 ^ 52 := by
  obtain ⟨hlow, hhigh⟩ := stepAngle_bounds
  obtain ⟨hl, hh⟩ := sin_bounds (x := stepAngle / 2) (a := 0.0015339807878856412297 / 2) (b := 0.0015339807878856412298 / 2)
    (by norm_num) (by linarith) (by linarith) (by norm_num)
  have hcos : Real.cos stepAngle = 1 - 2 * Real.sin (stepAngle / 2) ^ 2 := by
    have hdouble := Real.cos_two_mul (stepAngle / 2)
    rw [Real.cos_sq', mul_div_cancel₀ _ two_ne_zero] at hdouble
    linarith
  have hsq_low : (0.0007669903187426996 : ℝ) ^ 2 ≤ Real.sin (stepAngle / 2) ^ 2 := by
    gcongr
    exact le_trans (by norm_num) hl
  have hsq_high : Real.sin (stepAngle / 2) ^ 2 ≤ (0.0007669903187427072 : ℝ) ^ 2 := by
    have hnonneg : (0 : ℝ) ≤ Real.sin (stepAngle / 2) := le_trans (by norm_num) hl
    gcongr
    exact le_trans hh (by norm_num)
  rw [hcos]
  norm_num [turnCos, abs_le] at *
  constructor <;> linarith

/-! ### The turned point stays near the unit circle -/

/-- The point of the unit circle at one step's angle. -/
noncomputable def unitTurn : ℂ := Complex.exp (stepAngle * Complex.I)

theorem norm_unitTurn : ‖unitTurn‖ = 1 := Complex.norm_exp_ofReal_mul_I stepAngle

theorem unitTurn_pow (n : Nat) : unitTurn ^ n = Complex.exp ((n * stepAngle : ℝ) * Complex.I) := by
  rw [unitTurn, ← Complex.exp_nat_mul]
  push_cast
  ring_nf

/-- Both parts of the turning number are rounded down, so a turn does not lengthen. -/
theorem norm_turn_le_one : ‖asComplex (turnCos, turnSin)‖ ≤ 1 := by
  rw [← sq_le_one_iff₀ (norm_nonneg _), Complex.sq_norm, Complex.normSq_apply]
  norm_num [asComplex, turnCos, turnSin]

theorem norm_turn_sub_unitTurn_le : ‖asComplex (turnCos, turnSin) - unitTurn‖ ≤ 2 * (1 / 2 ^ 52) := by
  refine norm_le_of_parts ?_ ?_
  · rw [Complex.sub_re, unitTurn, Complex.exp_ofReal_mul_I_re]
    exact abs_turnCos_sub_le
  · rw [Complex.sub_im, unitTurn, Complex.exp_ofReal_mul_I_im]
    exact abs_turnSin_sub_le

/-- Each turn adds its rounding and the error of the turning number, and does not grow the error so far. -/
theorem norm_circlePoint_sub_le (n : Nat) : ‖asComplex (circlePoint n) - unitTurn ^ n‖ ≤ n * (1 / 2 ^ 50) := by
  induction n with
  | zero =>
    have hstart : asComplex (circlePoint 0) = 1 := by
      apply Complex.ext <;> norm_num [asComplex, circlePoint]
    simp [hstart]
  | succ n ih =>
    have hsplit : asComplex (circlePoint (n + 1)) - unitTurn ^ (n + 1) =
        (asComplex (turned (circlePoint n)) - asComplex (circlePoint n) * asComplex (turnCos, turnSin)) +
        (asComplex (circlePoint n) - unitTurn ^ n) * asComplex (turnCos, turnSin) +
        unitTurn ^ n * (asComplex (turnCos, turnSin) - unitTurn) := by
      rw [circlePoint, pow_succ]
      ring
    have hcarried : ‖(asComplex (circlePoint n) - unitTurn ^ n) * asComplex (turnCos, turnSin)‖ ≤ n * (1 / 2 ^ 50) := by
      rw [norm_mul]
      exact (mul_le_of_le_one_right (norm_nonneg _) norm_turn_le_one).trans ih
    have hturn : ‖unitTurn ^ n * (asComplex (turnCos, turnSin) - unitTurn)‖ ≤ 2 * (1 / 2 ^ 52) := by
      rw [norm_mul, norm_pow, norm_unitTurn, one_pow, one_mul]
      exact norm_turn_sub_unitTurn_le
    rw [hsplit]
    refine (norm_add₃_le).trans ?_
    have hround := norm_turned_sub_le (circlePoint n)
    push_cast
    linarith

/-- The circle's points of the first quadrant, to within 2^-40. -/
theorem circlePoint_near {n : Nat} (h : n ≤ 1024) :
    |((circlePoint n).1 : ℝ) / 2 ^ 64 - Real.cos (n * stepAngle)| ≤ 1 / 2 ^ 40 ∧
    |((circlePoint n).2 : ℝ) / 2 ^ 64 - Real.sin (n * stepAngle)| ≤ 1 / 2 ^ 40 := by
  have hle : (n : ℝ) ≤ 1024 := by exact_mod_cast h
  have hnorm : ‖asComplex (circlePoint n) - Complex.exp ((n * stepAngle : ℝ) * Complex.I)‖ ≤ 1 / 2 ^ 40 := by
    have := norm_circlePoint_sub_le n
    rw [unitTurn_pow] at this
    linarith
  have hre := (Complex.abs_re_le_norm _).trans hnorm
  have him := (Complex.abs_im_le_norm _).trans hnorm
  rw [Complex.sub_re, Complex.exp_ofReal_mul_I_re] at hre
  rw [Complex.sub_im, Complex.exp_ofReal_mul_I_im] at him
  exact ⟨hre, him⟩

/-! ### The sine -/

/-- Each entry of the first quadrant of SIN_LUT against the turned point, with room for the point's error. -/
theorem sinQuarter_near_circlePoint : ∀ n < 1025,
    |(sinQuarter n : Int) * 2 ^ 64 - 65536 * (circlePoint n).2| + 65536 * 2 ^ 24 < 2 ^ 63 := by
  decide +kernel

theorem abs_sinQuarter_sub_lt {n : Nat} (h : n ≤ 1024) :
    |(sinQuarter n : ℝ) - 65536 * Real.sin (n * stepAngle)| < 1 / 2 := by
  have hentry : |(sinQuarter n : ℝ) * 2 ^ 64 - 65536 * (circlePoint n).2| + 65536 * 2 ^ 24 < 2 ^ 63 := by
    exact_mod_cast sinQuarter_near_circlePoint n (Nat.lt_succ_of_le h)
  have hpoint := (circlePoint_near h).2
  rw [abs_le] at hpoint
  have hroom := abs_lt.mp (lt_sub_iff_add_lt.mpr hentry)
  rw [abs_lt]
  constructor <;> linarith

/-- A half turn is 2048 steps, so the table's backward reading is the sine's mirror. -/
theorem mirror_mul_stepAngle {n : Nat} (h : n ≤ 2048) : ((2048 - n : Nat) : ℝ) * stepAngle = Real.pi - n * stepAngle := by
  rw [Nat.cast_sub h, stepAngle]
  push_cast
  ring

theorem abs_sinHalf_sub_lt {n : Nat} (h : n ≤ 2048) : |(sinHalf n : ℝ) - 65536 * Real.sin (n * stepAngle)| < 1 / 2 := by
  by_cases hn : n ≤ 1024
  · rw [sinHalf_of_le hn]
    exact abs_sinQuarter_sub_lt hn
  · obtain ⟨m, hm, rfl⟩ : ∃ m ≤ 1024, n = 2048 - m := ⟨2048 - n, by omega, by omega⟩
    rw [sinHalf_mirror hm, mirror_mul_stepAngle (by omega), Real.sin_pi_sub]
    exact abs_sinQuarter_sub_lt hm

/-- Settles O28: the first half turn, and the second by sin (x + π) = - sin x. -/
theorem sineTableIsTheRoundedSine : Obligations.SineTableIsTheRoundedSine := by
  intro i hi
  have hangle : 2 * Real.pi * i / 4096 = i * stepAngle := by rw [stepAngle]; ring
  rw [hangle]
  by_cases hhalf : i < 2048
  · rw [toInt_sinLut_of_lt hhalf]
    exact abs_sinHalf_sub_lt hhalf.le
  · obtain ⟨m, rfl⟩ : ∃ m, i = 2048 + m := ⟨i - 2048, by omega⟩
    have hturn : ((2048 + m : Nat) : ℝ) * stepAngle = m * stepAngle + Real.pi := by
      rw [stepAngle]
      push_cast
      ring
    rw [toInt_sinLut_add_half, hturn, Real.sin_add_pi, Int.cast_neg, mul_neg, ← neg_sub', abs_neg]
    exact abs_sinHalf_sub_lt (by omega)

/-! ### The tangent -/

/-- Each entry of TAN_LUT below 90 degrees against the turned point, with room for the point's error; the cosine of the point is
cleared from the denominator. -/
theorem tanQuarter_near_circlePoint : ∀ n < 1024,
    2 * (|(entryAt tanRows n : Int) * (circlePoint n).1 - 65536 * (circlePoint n).2| + (entryAt tanRows n + 65536) * 2 ^ 24) <
      (circlePoint n).1 - 2 ^ 24 := by
  decide +kernel

theorem abs_tanQuarter_sub_lt {n : Nat} (h : n < 1024) :
    |(entryAt tanRows n : ℝ) - 65536 * Real.tan (n * stepAngle)| < 1 / 2 := by
  have hentry : 2 * (|(entryAt tanRows n : ℝ) * (circlePoint n).1 - 65536 * (circlePoint n).2| +
      (entryAt tanRows n + 65536) * 2 ^ 24) < (circlePoint n).1 - 2 ^ 24 := by
    exact_mod_cast tanQuarter_near_circlePoint n h
  have hentry_nonneg : (0 : ℝ) ≤ entryAt tanRows n := Nat.cast_nonneg _
  obtain ⟨hcos, hsin⟩ := circlePoint_near h.le
  rw [abs_le] at hcos hsin
  have hroom := abs_nonneg ((entryAt tanRows n : ℝ) * (circlePoint n).1 - 65536 * (circlePoint n).2)
  have hpos : 0 < Real.cos (n * stepAngle) := by linarith
  have hscaled_low := mul_le_mul_of_nonneg_left hcos.1 hentry_nonneg
  have hscaled_high := mul_le_mul_of_nonneg_left hcos.2 hentry_nonneg
  have hcleared : |(entryAt tanRows n : ℝ) * Real.cos (n * stepAngle) - 65536 * Real.sin (n * stepAngle)| <
      1 / 2 * Real.cos (n * stepAngle) := by
    have hlow := neg_abs_le ((entryAt tanRows n : ℝ) * (circlePoint n).1 - 65536 * (circlePoint n).2)
    have hhigh := le_abs_self ((entryAt tanRows n : ℝ) * (circlePoint n).1 - 65536 * (circlePoint n).2)
    rw [abs_lt]
    constructor <;> linarith
  have hquot : (entryAt tanRows n : ℝ) - 65536 * Real.tan (n * stepAngle) =
      (entryAt tanRows n * Real.cos (n * stepAngle) - 65536 * Real.sin (n * stepAngle)) / Real.cos (n * stepAngle) := by
    rw [Real.tan_eq_sin_div_cos]
    field_simp
  rw [hquot, abs_div, abs_of_pos hpos, div_lt_iff₀ hpos]
  exact hcleared

/-- The two halves of TAN_LUT, on either side of entry 1024. -/
theorem lt_or_eq_mirror {i : Nat} (h : i < 2048) (hne : i ≠ 1024) : i < 1024 ∨ ∃ m < 1024, i = 2048 - m := by
  by_cases hlt : i < 1024
  · exact .inl hlt
  · exact .inr ⟨2048 - i, by omega, by omega⟩

/-- Settles O29: the entries below 90 degrees, and the mirrored ones by tan (π - x) = - tan x. -/
theorem tangentTableIsTheRoundedTangent : Obligations.TangentTableIsTheRoundedTangent := by
  refine ⟨fun i hi hne => ?_, rfl, fun i _ hi => ?_, fun i hi hne => ?_⟩
  · have hangle : Real.pi * i / 2048 = i * stepAngle := by rw [stepAngle]; ring
    rw [hangle]
    rcases lt_or_eq_mirror hi hne with hlt | ⟨m, hm, rfl⟩
    · rw [toInt_tanLut_of_lt hlt]
      exact abs_tanQuarter_sub_lt hlt
    · rw [toInt_tanLut_mirror hm, mirror_mul_stepAngle (by omega), Real.tan_pi_sub, Int.cast_neg, mul_neg, ← neg_sub', abs_neg]
      exact abs_tanQuarter_sub_lt hm
  · rw [toInt_tanLut_mirror (by omega), toInt_tanLut_of_lt (by omega)]
  · rcases lt_or_eq_mirror hi hne with hlt | ⟨m, hm, rfl⟩
    · rw [toInt_tanLut_of_lt hlt]
      exact entryAt_tanRows_le i
    · rw [toInt_tanLut_mirror hm, Int.natAbs_neg]
      exact entryAt_tanRows_le m

end Sys2Proof.Proofs
